-- ==== Sys2Proof/Word.lean ====
section
/-!
DEFINITION. The word types of the core. Bits are numbered from 0, the least significant, and every value is
unsigned (00_scope.md R6).
-/

namespace Sys2Proof

/-- One byte of `IN`, `OUT` or `DICT`: every access moves exactly one (20_memory.md R38). -/
abbrev Byte := BitVec 8

/-- The contents of `bitAccumulator`, `ACC_W = 32` (00_scope.md R5, 10_state.md R11). -/
abbrev Word := BitVec 32

end Sys2Proof
end

