-- ==== Sys2Proof/Config.lean ====
section
/-!
DEFINITION. What is fixed for this core (00_scope.md R5) and the free values: what the spec leaves unspecified
although the machine goes on.
-/

namespace Sys2Proof.Config

/-- `DICT_CAP`: physical dictionary bytes, whatever the header says (20_memory.md R33). -/
abbrev dictCap : Nat := 4096

/-- Lookahead demanded before a token (41_bit_reader.md R80, R86). -/
abbrev tokenLookahead : Nat := 16

/-- Lookahead demanded before an offset part (41_bit_reader.md R80, R86). -/
abbrev offsetLookahead : Nat := 14

/-- The length that stands for `END` (43_tokens.md R104). -/
abbrev sentinelLength : Nat := 519

/-- The least number of input bytes a launch accepts, header included (44_fsm.md R122). -/
abbrev minInput : Nat := 4

/-- What `literalModeFlag` holds after a failed launch: "unspecified" (44_fsm.md R122). The argument is the
counter `State.freeIndex`. Nothing is known of it (DESIGN CHOICE, log 5: a free value, safe). -/
opaque freeLiteralModeFlag : Nat → BitVec 1

/-- What `dictSizeCode` holds after a failed launch: "unspecified" (44_fsm.md R122), any 3-bit value
(DESIGN CHOICE, log 5: a free value, safe). -/
opaque freeDictSizeCode : Nat → BitVec 3

end Sys2Proof.Config
end

