-- ==== Sys2Proof/Machine/Rom.lean ====
section
/-!
DEFINITION. The prefix-code table ROM (31_rom_tables.md). The organisation and the search are the source's (R70, R71);
the CONTENTS (R72, R73, R74) are supplied from general knowledge, not from the source (G1): PRESUMED, log 1, unsafe.
Codes are stored accumulator-aligned: bit 0 of the stored number is the first bit delivered (R70).
-/

namespace Sys2Proof.Rom

/-- A prefix code: its width in bits and its accumulator-aligned pattern (31_rom_tables.md R70). -/
structure Code where
  bits : Nat
  code : Nat
  deriving DecidableEq, Repr

/-- An entry of the Length table (31_rom_tables.md R72). -/
structure LenEntry where
  bits      : Nat
  code      : Nat
  base      : Nat
  extraBits : Nat
  deriving DecidableEq, Repr

/-- The Length table, 16 entries (31_rom_tables.md R72): LenBits, LenCode, LenBase, ExLenBits. -/
def lenTable : List LenEntry :=
  [⟨3, 0x05, 2, 0⟩, ⟨2, 0x03, 3, 0⟩, ⟨3, 0x01, 4, 0⟩, ⟨3, 0x06, 5, 0⟩, ⟨4, 0x0A, 6, 0⟩, ⟨4, 0x02, 7, 0⟩, ⟨4, 0x0C, 8, 0⟩, ⟨5, 0x14, 9, 0⟩] ++
  [⟨5, 0x04, 10, 1⟩, ⟨5, 0x18, 12, 2⟩, ⟨5, 0x08, 16, 3⟩, ⟨6, 0x30, 24, 4⟩, ⟨6, 0x10, 40, 5⟩, ⟨6, 0x20, 72, 6⟩, ⟨7, 0x40, 136, 7⟩, ⟨7, 0x00, 264, 8⟩]

/-- The Offset table, 64 entries (31_rom_tables.md R73): OffsBits, OffsCode. -/
def offsTable : List Code :=
  [⟨2, 0x03⟩, ⟨4, 0x0D⟩, ⟨4, 0x05⟩, ⟨5, 0x19⟩, ⟨5, 0x09⟩, ⟨5, 0x11⟩, ⟨5, 0x01⟩, ⟨6, 0x3E⟩] ++
  [⟨6, 0x1E⟩, ⟨6, 0x2E⟩, ⟨6, 0x0E⟩, ⟨6, 0x36⟩, ⟨6, 0x16⟩, ⟨6, 0x26⟩, ⟨6, 0x06⟩, ⟨6, 0x3A⟩] ++
  [⟨6, 0x1A⟩, ⟨6, 0x2A⟩, ⟨6, 0x0A⟩, ⟨6, 0x32⟩, ⟨6, 0x12⟩, ⟨6, 0x22⟩, ⟨7, 0x42⟩, ⟨7, 0x02⟩] ++
  [⟨7, 0x7C⟩, ⟨7, 0x3C⟩, ⟨7, 0x5C⟩, ⟨7, 0x1C⟩, ⟨7, 0x6C⟩, ⟨7, 0x2C⟩, ⟨7, 0x4C⟩, ⟨7, 0x0C⟩] ++
  [⟨7, 0x74⟩, ⟨7, 0x34⟩, ⟨7, 0x54⟩, ⟨7, 0x14⟩, ⟨7, 0x64⟩, ⟨7, 0x24⟩, ⟨7, 0x44⟩, ⟨7, 0x04⟩] ++
  [⟨7, 0x78⟩, ⟨7, 0x38⟩, ⟨7, 0x58⟩, ⟨7, 0x18⟩, ⟨7, 0x68⟩, ⟨7, 0x28⟩, ⟨7, 0x48⟩, ⟨7, 0x08⟩] ++
  [⟨8, 0xF0⟩, ⟨8, 0x70⟩, ⟨8, 0xB0⟩, ⟨8, 0x30⟩, ⟨8, 0xD0⟩, ⟨8, 0x50⟩, ⟨8, 0x90⟩, ⟨8, 0x10⟩] ++
  [⟨8, 0xE0⟩, ⟨8, 0x60⟩, ⟨8, 0xA0⟩, ⟨8, 0x20⟩, ⟨8, 0xC0⟩, ⟨8, 0x40⟩, ⟨8, 0x80⟩, ⟨8, 0x00⟩]

/-- The Literal table, 256 entries (31_rom_tables.md R74): ChBits, ChCode; the index is the decoded byte. -/
def chTable : List Code :=
  [⟨11, 0x0490⟩, ⟨12, 0x0FE0⟩, ⟨12, 0x07E0⟩, ⟨12, 0x0BE0⟩, ⟨12, 0x03E0⟩, ⟨12, 0x0DE0⟩, ⟨12, 0x05E0⟩, ⟨12, 0x09E0⟩] ++
  [⟨12, 0x01E0⟩, ⟨8, 0x00B8⟩, ⟨7, 0x0062⟩, ⟨12, 0x0EE0⟩, ⟨12, 0x06E0⟩, ⟨7, 0x0022⟩, ⟨12, 0x0AE0⟩, ⟨12, 0x02E0⟩] ++
  [⟨12, 0x0CE0⟩, ⟨12, 0x04E0⟩, ⟨12, 0x08E0⟩, ⟨12, 0x00E0⟩, ⟨12, 0x0F60⟩, ⟨12, 0x0760⟩, ⟨12, 0x0B60⟩, ⟨12, 0x0360⟩] ++
  [⟨12, 0x0D60⟩, ⟨12, 0x0560⟩, ⟨13, 0x1240⟩, ⟨12, 0x0960⟩, ⟨12, 0x0160⟩, ⟨12, 0x0E60⟩, ⟨12, 0x0660⟩, ⟨12, 0x0A60⟩] ++
  [⟨4, 0x000F⟩, ⟨10, 0x0250⟩, ⟨8, 0x0038⟩, ⟨12, 0x0260⟩, ⟨10, 0x0050⟩, ⟨12, 0x0C60⟩, ⟨10, 0x0390⟩, ⟨8, 0x00D8⟩] ++
  [⟨7, 0x0042⟩, ⟨7, 0x0002⟩, ⟨8, 0x0058⟩, ⟨9, 0x01B0⟩, ⟨7, 0x007C⟩, ⟨6, 0x0029⟩, ⟨7, 0x003C⟩, ⟨8, 0x0098⟩] ++
  [⟨7, 0x005C⟩, ⟨6, 0x0009⟩, ⟨7, 0x001C⟩, ⟨7, 0x006C⟩, ⟨7, 0x002C⟩, ⟨7, 0x004C⟩, ⟨8, 0x0018⟩, ⟨7, 0x000C⟩] ++
  [⟨7, 0x0074⟩, ⟨8, 0x00E8⟩, ⟨8, 0x0068⟩, ⟨12, 0x0460⟩, ⟨11, 0x0090⟩, ⟨7, 0x0034⟩, ⟨9, 0x00B0⟩, ⟨11, 0x0710⟩] ++
  [⟨12, 0x0860⟩, ⟨6, 0x0031⟩, ⟨7, 0x0054⟩, ⟨6, 0x0011⟩, ⟨6, 0x0021⟩, ⟨5, 0x0017⟩, ⟨7, 0x0014⟩, ⟨8, 0x00A8⟩] ++
  [⟨8, 0x0028⟩, ⟨6, 0x0001⟩, ⟨11, 0x0310⟩, ⟨9, 0x0130⟩, ⟨6, 0x003E⟩, ⟨7, 0x0064⟩, ⟨6, 0x001E⟩, ⟨6, 0x002E⟩] ++
  [⟨7, 0x0024⟩, ⟨11, 0x0510⟩, ⟨6, 0x000E⟩, ⟨6, 0x0036⟩, ⟨6, 0x0016⟩, ⟨7, 0x0044⟩, ⟨9, 0x0030⟩, ⟨8, 0x00C8⟩] ++
  [⟨9, 0x01D0⟩, ⟨9, 0x00D0⟩, ⟨11, 0x0110⟩, ⟨8, 0x0048⟩, ⟨11, 0x0610⟩, ⟨9, 0x0150⟩, ⟨12, 0x0060⟩, ⟨8, 0x0088⟩] ++
  [⟨12, 0x0FA0⟩, ⟨5, 0x0007⟩, ⟨6, 0x0026⟩, ⟨6, 0x0006⟩, ⟨6, 0x003A⟩, ⟨5, 0x001B⟩, ⟨6, 0x001A⟩, ⟨6, 0x002A⟩] ++
  [⟨6, 0x000A⟩, ⟨5, 0x000B⟩, ⟨11, 0x0210⟩, ⟨7, 0x0004⟩, ⟨5, 0x0013⟩, ⟨6, 0x0032⟩, ⟨5, 0x0003⟩, ⟨5, 0x001D⟩] ++
  [⟨6, 0x0012⟩, ⟨10, 0x0190⟩, ⟨5, 0x000D⟩, ⟨5, 0x0015⟩, ⟨5, 0x0005⟩, ⟨5, 0x0019⟩, ⟨8, 0x0008⟩, ⟨7, 0x0078⟩] ++
  [⟨8, 0x00F0⟩, ⟨8, 0x0070⟩, ⟨10, 0x0290⟩, ⟨11, 0x0410⟩, ⟨11, 0x0010⟩, ⟨12, 0x07A0⟩, ⟨12, 0x0BA0⟩, ⟨12, 0x03A0⟩] ++
  [⟨13, 0x0240⟩, ⟨13, 0x1C40⟩, ⟨13, 0x0C40⟩, ⟨13, 0x1440⟩, ⟨13, 0x0440⟩, ⟨13, 0x1840⟩, ⟨13, 0x0840⟩, ⟨13, 0x1040⟩] ++
  [⟨13, 0x0040⟩, ⟨13, 0x1F80⟩, ⟨13, 0x0F80⟩, ⟨13, 0x1780⟩, ⟨13, 0x0780⟩, ⟨13, 0x1B80⟩, ⟨13, 0x0B80⟩, ⟨13, 0x1380⟩] ++
  [⟨13, 0x0380⟩, ⟨13, 0x1D80⟩, ⟨13, 0x0D80⟩, ⟨13, 0x1580⟩, ⟨13, 0x0580⟩, ⟨13, 0x1980⟩, ⟨13, 0x0980⟩, ⟨13, 0x1180⟩] ++
  [⟨13, 0x0180⟩, ⟨13, 0x1E80⟩, ⟨13, 0x0E80⟩, ⟨13, 0x1680⟩, ⟨13, 0x0680⟩, ⟨13, 0x1A80⟩, ⟨13, 0x0A80⟩, ⟨13, 0x1280⟩] ++
  [⟨13, 0x0280⟩, ⟨13, 0x1C80⟩, ⟨13, 0x0C80⟩, ⟨13, 0x1480⟩, ⟨13, 0x0480⟩, ⟨13, 0x1880⟩, ⟨13, 0x0880⟩, ⟨13, 0x1080⟩] ++
  [⟨13, 0x0080⟩, ⟨13, 0x1F00⟩, ⟨13, 0x0F00⟩, ⟨13, 0x1700⟩, ⟨13, 0x0700⟩, ⟨13, 0x1B00⟩, ⟨13, 0x0B00⟩, ⟨13, 0x1300⟩] ++
  [⟨12, 0x0DA0⟩, ⟨12, 0x05A0⟩, ⟨12, 0x09A0⟩, ⟨12, 0x01A0⟩, ⟨12, 0x0EA0⟩, ⟨12, 0x06A0⟩, ⟨12, 0x0AA0⟩, ⟨12, 0x02A0⟩] ++
  [⟨12, 0x0CA0⟩, ⟨12, 0x04A0⟩, ⟨12, 0x08A0⟩, ⟨12, 0x00A0⟩, ⟨12, 0x0F20⟩, ⟨12, 0x0720⟩, ⟨12, 0x0B20⟩, ⟨12, 0x0320⟩] ++
  [⟨12, 0x0D20⟩, ⟨12, 0x0520⟩, ⟨12, 0x0920⟩, ⟨12, 0x0120⟩, ⟨12, 0x0E20⟩, ⟨12, 0x0620⟩, ⟨12, 0x0A20⟩, ⟨12, 0x0220⟩] ++
  [⟨12, 0x0C20⟩, ⟨12, 0x0420⟩, ⟨12, 0x0820⟩, ⟨12, 0x0020⟩, ⟨12, 0x0FC0⟩, ⟨12, 0x07C0⟩, ⟨12, 0x0BC0⟩, ⟨12, 0x03C0⟩] ++
  [⟨12, 0x0DC0⟩, ⟨12, 0x05C0⟩, ⟨12, 0x09C0⟩, ⟨12, 0x01C0⟩, ⟨12, 0x0EC0⟩, ⟨12, 0x06C0⟩, ⟨12, 0x0AC0⟩, ⟨12, 0x02C0⟩] ++
  [⟨12, 0x0CC0⟩, ⟨12, 0x04C0⟩, ⟨12, 0x08C0⟩, ⟨12, 0x00C0⟩, ⟨12, 0x0F40⟩, ⟨12, 0x0740⟩, ⟨12, 0x0B40⟩, ⟨12, 0x0340⟩] ++
  [⟨13, 0x0300⟩, ⟨12, 0x0D40⟩, ⟨13, 0x1D00⟩, ⟨13, 0x0D00⟩, ⟨13, 0x1500⟩, ⟨12, 0x0540⟩, ⟨13, 0x0500⟩, ⟨13, 0x1900⟩] ++
  [⟨13, 0x0900⟩, ⟨12, 0x0940⟩, ⟨13, 0x1100⟩, ⟨13, 0x0100⟩, ⟨13, 0x1E00⟩, ⟨13, 0x0E00⟩, ⟨12, 0x0140⟩, ⟨13, 0x1600⟩] ++
  [⟨13, 0x0600⟩, ⟨13, 0x1A00⟩, ⟨12, 0x0E40⟩, ⟨12, 0x0640⟩, ⟨12, 0x0A40⟩, ⟨13, 0x0A00⟩, ⟨13, 0x1200⟩, ⟨13, 0x0200⟩] ++
  [⟨13, 0x1C00⟩, ⟨13, 0x0C00⟩, ⟨13, 0x1400⟩, ⟨13, 0x0400⟩, ⟨13, 0x1800⟩, ⟨13, 0x0800⟩, ⟨13, 0x1000⟩, ⟨13, 0x0000⟩]

/-- The Length table as prefix codes. -/
def lenCodes : List Code := lenTable.map fun e => ⟨e.bits, e.code⟩

def lenEntry (i : Nat) : LenEntry := lenTable.getD i ⟨0, 0, 0, 0⟩
def lenBits (i : Nat) : Nat := (lenEntry i).bits
def lenCode (i : Nat) : Nat := (lenEntry i).code
def lenBase (i : Nat) : Nat := (lenEntry i).base
def exLenBits (i : Nat) : Nat := (lenEntry i).extraBits

def offsEntry (j : Nat) : Code := offsTable.getD j ⟨0, 0⟩
def offsBits (j : Nat) : Nat := (offsEntry j).bits
def offsCode (j : Nat) : Nat := (offsEntry j).code

def chEntry (c : Nat) : Code := chTable.getD c ⟨0, 0⟩
def chBits (c : Nat) : Nat := (chEntry c).bits
def chCode (c : Nat) : Nat := (chEntry c).code

/-- The entry applies to the bits `acc` still to be delivered: its `bits` LOW bits equal the pattern
(31_rom_tables.md R71; low, not top: 90_conflicts.md C1). -/
def Code.hits (e : Code) (acc : Nat) : Bool := acc % 2 ^ e.bits == e.code

/-- The linear scan of R71, ascending, first match wins; `none` where no entry matches. -/
def scan : List Code → Nat → Option Nat
  | [], _ => none
  | e :: rest, acc => if e.hits acc then some 0 else (scan rest acc).map (· + 1)

def scanLen (acc : Nat) : Option Nat := scan lenCodes acc
def scanOffs (acc : Nat) : Option Nat := scan offsTable acc
def scanCh (acc : Nat) : Option Nat := scan chTable acc

end Sys2Proof.Rom
end

