-- ==== Sys2Proof/Machine/Operands.lean ====
section
/-!
DEFINITION. Operand assembly (30_encoding.md R58, R59, R62) and the bit-field helpers (00_scope.md R6).
-/

namespace Sys2Proof.Machine

/-- `T[lo + k - 1 : lo]`, the `k` bits of `T` from bit `lo` (00_scope.md R6); 0 for `k = 0`. -/
def field (T lo k : Nat) : Nat := T >>> lo % 2 ^ k

/-- `length = LenBase[i] + extra` (30_encoding.md R58). -/
def lengthOf (i extra : Nat) : Nat := Rom.lenBase i + extra

/-- The width in bits of the length part, flag included: `1 + LenBits[i] + ExLenBits[i]` (30_encoding.md R54). -/
def lengthPartWidth (i : Nat) : Nat := 1 + Rom.lenBits i + Rom.exLenBits i

/-- How many low distance bits a copy has: 2 for length 2, else `dictSizeCode` (43_tokens.md R106, R107). -/
def lowWidth (dictSizeCode length : Nat) : Nat := if length = 2 then 2 else dictSizeCode

/-- The raw distance `D = (j << w) + low` (30_encoding.md R59). -/
def distance (w j low : Nat) : Nat := j <<< w + low

end Sys2Proof.Machine
end

