-- ==== Sys2Proof/Syntax.lean ====
section
/-!
DEFINITION. The instructions of the core: the tokens of the explode stream (30_encoding.md R51), one constructor per
row of opcode_table.json (30_encoding.md R64), the context they are read in (R62), and the view of an instruction as
its format with operands.
-/

namespace Sys2Proof

/-- One constructor per row of the opcode table. `litpXX` is row `LITP.XX`, the literal byte `0xXX`; `copyLi` is row
`COPY.Li`, length index `i`, with its extra length bits where the row has any; `offsXX` is row `OFFS.XX`, the offset
prefix of index `0xXX`. The rows with operands stand first, which the runtime needs of a type this large. `j` is the offset-table index, `low` the low distance bits (at most 6 of them, R57). -/
inductive Instr where
  | lit8 (byte : Byte)
  | copy2 (j : BitVec 6) (low : BitVec 2)
  | copyL1 (j : BitVec 6) (low : BitVec 6)
  | copyL2 (j : BitVec 6) (low : BitVec 6)
  | copyL3 (j : BitVec 6) (low : BitVec 6)
  | copyL4 (j : BitVec 6) (low : BitVec 6)
  | copyL5 (j : BitVec 6) (low : BitVec 6)
  | copyL6 (j : BitVec 6) (low : BitVec 6)
  | copyL7 (j : BitVec 6) (low : BitVec 6)
  | copyL8 (extra : BitVec 1) (j : BitVec 6) (low : BitVec 6)
  | copyL9 (extra : BitVec 2) (j : BitVec 6) (low : BitVec 6)
  | copyL10 (extra : BitVec 3) (j : BitVec 6) (low : BitVec 6)
  | copyL11 (extra : BitVec 4) (j : BitVec 6) (low : BitVec 6)
  | copyL12 (extra : BitVec 5) (j : BitVec 6) (low : BitVec 6)
  | copyL13 (extra : BitVec 6) (j : BitVec 6) (low : BitVec 6)
  | copyL14 (extra : BitVec 7) (j : BitVec 6) (low : BitVec 6)
  | copyL15 (extra : BitVec 8) (j : BitVec 6) (low : BitVec 6)
  | endOfStream
  | litp00 | litp01 | litp02 | litp03 | litp04 | litp05 | litp06 | litp07
  | litp08 | litp09 | litp0A | litp0B | litp0C | litp0D | litp0E | litp0F
  | litp10 | litp11 | litp12 | litp13 | litp14 | litp15 | litp16 | litp17
  | litp18 | litp19 | litp1A | litp1B | litp1C | litp1D | litp1E | litp1F
  | litp20 | litp21 | litp22 | litp23 | litp24 | litp25 | litp26 | litp27
  | litp28 | litp29 | litp2A | litp2B | litp2C | litp2D | litp2E | litp2F
  | litp30 | litp31 | litp32 | litp33 | litp34 | litp35 | litp36 | litp37
  | litp38 | litp39 | litp3A | litp3B | litp3C | litp3D | litp3E | litp3F
  | litp40 | litp41 | litp42 | litp43 | litp44 | litp45 | litp46 | litp47
  | litp48 | litp49 | litp4A | litp4B | litp4C | litp4D | litp4E | litp4F
  | litp50 | litp51 | litp52 | litp53 | litp54 | litp55 | litp56 | litp57
  | litp58 | litp59 | litp5A | litp5B | litp5C | litp5D | litp5E | litp5F
  | litp60 | litp61 | litp62 | litp63 | litp64 | litp65 | litp66 | litp67
  | litp68 | litp69 | litp6A | litp6B | litp6C | litp6D | litp6E | litp6F
  | litp70 | litp71 | litp72 | litp73 | litp74 | litp75 | litp76 | litp77
  | litp78 | litp79 | litp7A | litp7B | litp7C | litp7D | litp7E | litp7F
  | litp80 | litp81 | litp82 | litp83 | litp84 | litp85 | litp86 | litp87
  | litp88 | litp89 | litp8A | litp8B | litp8C | litp8D | litp8E | litp8F
  | litp90 | litp91 | litp92 | litp93 | litp94 | litp95 | litp96 | litp97
  | litp98 | litp99 | litp9A | litp9B | litp9C | litp9D | litp9E | litp9F
  | litpA0 | litpA1 | litpA2 | litpA3 | litpA4 | litpA5 | litpA6 | litpA7
  | litpA8 | litpA9 | litpAA | litpAB | litpAC | litpAD | litpAE | litpAF
  | litpB0 | litpB1 | litpB2 | litpB3 | litpB4 | litpB5 | litpB6 | litpB7
  | litpB8 | litpB9 | litpBA | litpBB | litpBC | litpBD | litpBE | litpBF
  | litpC0 | litpC1 | litpC2 | litpC3 | litpC4 | litpC5 | litpC6 | litpC7
  | litpC8 | litpC9 | litpCA | litpCB | litpCC | litpCD | litpCE | litpCF
  | litpD0 | litpD1 | litpD2 | litpD3 | litpD4 | litpD5 | litpD6 | litpD7
  | litpD8 | litpD9 | litpDA | litpDB | litpDC | litpDD | litpDE | litpDF
  | litpE0 | litpE1 | litpE2 | litpE3 | litpE4 | litpE5 | litpE6 | litpE7
  | litpE8 | litpE9 | litpEA | litpEB | litpEC | litpED | litpEE | litpEF
  | litpF0 | litpF1 | litpF2 | litpF3 | litpF4 | litpF5 | litpF6 | litpF7
  | litpF8 | litpF9 | litpFA | litpFB | litpFC | litpFD | litpFE | litpFF
  | offs00 | offs01 | offs02 | offs03 | offs04 | offs05 | offs06 | offs07
  | offs08 | offs09 | offs0A | offs0B | offs0C | offs0D | offs0E | offs0F
  | offs10 | offs11 | offs12 | offs13 | offs14 | offs15 | offs16 | offs17
  | offs18 | offs19 | offs1A | offs1B | offs1C | offs1D | offs1E | offs1F
  | offs20 | offs21 | offs22 | offs23 | offs24 | offs25 | offs26 | offs27
  | offs28 | offs29 | offs2A | offs2B | offs2C | offs2D | offs2E | offs2F
  | offs30 | offs31 | offs32 | offs33 | offs34 | offs35 | offs36 | offs37
  | offs38 | offs39 | offs3A | offs3B | offs3C | offs3D | offs3E | offs3F
  deriving DecidableEq, Repr

/-- What, besides the bits, decides how bits are read (30_encoding.md R62, R64): the two header fields, and whether
the bits start at a flag bit or at the offset prefix of a copy whose length part has been consumed. -/
structure Ctx where
  literalModeFlag : BitVec 1
  dictSizeCode    : BitVec 3
  atOffset        : Bool
  deriving DecidableEq, Repr

/-- An instruction as its format with operands (30_encoding.md R52 to R57): what every rule that speaks of a format
reads. `copy i extra j low` is `COPY` of length index `i`. -/
inductive Shape where
  | lit8 (byte : Byte)
  | litp (byte : Byte)
  | copy2 (j : BitVec 6) (low : BitVec 2)
  | copy (i extra : Nat) (j : BitVec 6) (low : BitVec 6)
  | endOfStream
  | offs (j : BitVec 6)
  deriving DecidableEq, Repr

/-- The format and operands of each row of the table. -/
def Instr.shape : Instr → Shape
  | .lit8 byte => .lit8 byte
  | .litp00 => .litp 0x00
  | .litp01 => .litp 0x01
  | .litp02 => .litp 0x02
  | .litp03 => .litp 0x03
  | .litp04 => .litp 0x04
  | .litp05 => .litp 0x05
  | .litp06 => .litp 0x06
  | .litp07 => .litp 0x07
  | .litp08 => .litp 0x08
  | .litp09 => .litp 0x09
  | .litp0A => .litp 0x0A
  | .litp0B => .litp 0x0B
  | .litp0C => .litp 0x0C
  | .litp0D => .litp 0x0D
  | .litp0E => .litp 0x0E
  | .litp0F => .litp 0x0F
  | .litp10 => .litp 0x10
  | .litp11 => .litp 0x11
  | .litp12 => .litp 0x12
  | .litp13 => .litp 0x13
  | .litp14 => .litp 0x14
  | .litp15 => .litp 0x15
  | .litp16 => .litp 0x16
  | .litp17 => .litp 0x17
  | .litp18 => .litp 0x18
  | .litp19 => .litp 0x19
  | .litp1A => .litp 0x1A
  | .litp1B => .litp 0x1B
  | .litp1C => .litp 0x1C
  | .litp1D => .litp 0x1D
  | .litp1E => .litp 0x1E
  | .litp1F => .litp 0x1F
  | .litp20 => .litp 0x20
  | .litp21 => .litp 0x21
  | .litp22 => .litp 0x22
  | .litp23 => .litp 0x23
  | .litp24 => .litp 0x24
  | .litp25 => .litp 0x25
  | .litp26 => .litp 0x26
  | .litp27 => .litp 0x27
  | .litp28 => .litp 0x28
  | .litp29 => .litp 0x29
  | .litp2A => .litp 0x2A
  | .litp2B => .litp 0x2B
  | .litp2C => .litp 0x2C
  | .litp2D => .litp 0x2D
  | .litp2E => .litp 0x2E
  | .litp2F => .litp 0x2F
  | .litp30 => .litp 0x30
  | .litp31 => .litp 0x31
  | .litp32 => .litp 0x32
  | .litp33 => .litp 0x33
  | .litp34 => .litp 0x34
  | .litp35 => .litp 0x35
  | .litp36 => .litp 0x36
  | .litp37 => .litp 0x37
  | .litp38 => .litp 0x38
  | .litp39 => .litp 0x39
  | .litp3A => .litp 0x3A
  | .litp3B => .litp 0x3B
  | .litp3C => .litp 0x3C
  | .litp3D => .litp 0x3D
  | .litp3E => .litp 0x3E
  | .litp3F => .litp 0x3F
  | .litp40 => .litp 0x40
  | .litp41 => .litp 0x41
  | .litp42 => .litp 0x42
  | .litp43 => .litp 0x43
  | .litp44 => .litp 0x44
  | .litp45 => .litp 0x45
  | .litp46 => .litp 0x46
  | .litp47 => .litp 0x47
  | .litp48 => .litp 0x48
  | .litp49 => .litp 0x49
  | .litp4A => .litp 0x4A
  | .litp4B => .litp 0x4B
  | .litp4C => .litp 0x4C
  | .litp4D => .litp 0x4D
  | .litp4E => .litp 0x4E
  | .litp4F => .litp 0x4F
  | .litp50 => .litp 0x50
  | .litp51 => .litp 0x51
  | .litp52 => .litp 0x52
  | .litp53 => .litp 0x53
  | .litp54 => .litp 0x54
  | .litp55 => .litp 0x55
  | .litp56 => .litp 0x56
  | .litp57 => .litp 0x57
  | .litp58 => .litp 0x58
  | .litp59 => .litp 0x59
  | .litp5A => .litp 0x5A
  | .litp5B => .litp 0x5B
  | .litp5C => .litp 0x5C
  | .litp5D => .litp 0x5D
  | .litp5E => .litp 0x5E
  | .litp5F => .litp 0x5F
  | .litp60 => .litp 0x60
  | .litp61 => .litp 0x61
  | .litp62 => .litp 0x62
  | .litp63 => .litp 0x63
  | .litp64 => .litp 0x64
  | .litp65 => .litp 0x65
  | .litp66 => .litp 0x66
  | .litp67 => .litp 0x67
  | .litp68 => .litp 0x68
  | .litp69 => .litp 0x69
  | .litp6A => .litp 0x6A
  | .litp6B => .litp 0x6B
  | .litp6C => .litp 0x6C
  | .litp6D => .litp 0x6D
  | .litp6E => .litp 0x6E
  | .litp6F => .litp 0x6F
  | .litp70 => .litp 0x70
  | .litp71 => .litp 0x71
  | .litp72 => .litp 0x72
  | .litp73 => .litp 0x73
  | .litp74 => .litp 0x74
  | .litp75 => .litp 0x75
  | .litp76 => .litp 0x76
  | .litp77 => .litp 0x77
  | .litp78 => .litp 0x78
  | .litp79 => .litp 0x79
  | .litp7A => .litp 0x7A
  | .litp7B => .litp 0x7B
  | .litp7C => .litp 0x7C
  | .litp7D => .litp 0x7D
  | .litp7E => .litp 0x7E
  | .litp7F => .litp 0x7F
  | .litp80 => .litp 0x80
  | .litp81 => .litp 0x81
  | .litp82 => .litp 0x82
  | .litp83 => .litp 0x83
  | .litp84 => .litp 0x84
  | .litp85 => .litp 0x85
  | .litp86 => .litp 0x86
  | .litp87 => .litp 0x87
  | .litp88 => .litp 0x88
  | .litp89 => .litp 0x89
  | .litp8A => .litp 0x8A
  | .litp8B => .litp 0x8B
  | .litp8C => .litp 0x8C
  | .litp8D => .litp 0x8D
  | .litp8E => .litp 0x8E
  | .litp8F => .litp 0x8F
  | .litp90 => .litp 0x90
  | .litp91 => .litp 0x91
  | .litp92 => .litp 0x92
  | .litp93 => .litp 0x93
  | .litp94 => .litp 0x94
  | .litp95 => .litp 0x95
  | .litp96 => .litp 0x96
  | .litp97 => .litp 0x97
  | .litp98 => .litp 0x98
  | .litp99 => .litp 0x99
  | .litp9A => .litp 0x9A
  | .litp9B => .litp 0x9B
  | .litp9C => .litp 0x9C
  | .litp9D => .litp 0x9D
  | .litp9E => .litp 0x9E
  | .litp9F => .litp 0x9F
  | .litpA0 => .litp 0xA0
  | .litpA1 => .litp 0xA1
  | .litpA2 => .litp 0xA2
  | .litpA3 => .litp 0xA3
  | .litpA4 => .litp 0xA4
  | .litpA5 => .litp 0xA5
  | .litpA6 => .litp 0xA6
  | .litpA7 => .litp 0xA7
  | .litpA8 => .litp 0xA8
  | .litpA9 => .litp 0xA9
  | .litpAA => .litp 0xAA
  | .litpAB => .litp 0xAB
  | .litpAC => .litp 0xAC
  | .litpAD => .litp 0xAD
  | .litpAE => .litp 0xAE
  | .litpAF => .litp 0xAF
  | .litpB0 => .litp 0xB0
  | .litpB1 => .litp 0xB1
  | .litpB2 => .litp 0xB2
  | .litpB3 => .litp 0xB3
  | .litpB4 => .litp 0xB4
  | .litpB5 => .litp 0xB5
  | .litpB6 => .litp 0xB6
  | .litpB7 => .litp 0xB7
  | .litpB8 => .litp 0xB8
  | .litpB9 => .litp 0xB9
  | .litpBA => .litp 0xBA
  | .litpBB => .litp 0xBB
  | .litpBC => .litp 0xBC
  | .litpBD => .litp 0xBD
  | .litpBE => .litp 0xBE
  | .litpBF => .litp 0xBF
  | .litpC0 => .litp 0xC0
  | .litpC1 => .litp 0xC1
  | .litpC2 => .litp 0xC2
  | .litpC3 => .litp 0xC3
  | .litpC4 => .litp 0xC4
  | .litpC5 => .litp 0xC5
  | .litpC6 => .litp 0xC6
  | .litpC7 => .litp 0xC7
  | .litpC8 => .litp 0xC8
  | .litpC9 => .litp 0xC9
  | .litpCA => .litp 0xCA
  | .litpCB => .litp 0xCB
  | .litpCC => .litp 0xCC
  | .litpCD => .litp 0xCD
  | .litpCE => .litp 0xCE
  | .litpCF => .litp 0xCF
  | .litpD0 => .litp 0xD0
  | .litpD1 => .litp 0xD1
  | .litpD2 => .litp 0xD2
  | .litpD3 => .litp 0xD3
  | .litpD4 => .litp 0xD4
  | .litpD5 => .litp 0xD5
  | .litpD6 => .litp 0xD6
  | .litpD7 => .litp 0xD7
  | .litpD8 => .litp 0xD8
  | .litpD9 => .litp 0xD9
  | .litpDA => .litp 0xDA
  | .litpDB => .litp 0xDB
  | .litpDC => .litp 0xDC
  | .litpDD => .litp 0xDD
  | .litpDE => .litp 0xDE
  | .litpDF => .litp 0xDF
  | .litpE0 => .litp 0xE0
  | .litpE1 => .litp 0xE1
  | .litpE2 => .litp 0xE2
  | .litpE3 => .litp 0xE3
  | .litpE4 => .litp 0xE4
  | .litpE5 => .litp 0xE5
  | .litpE6 => .litp 0xE6
  | .litpE7 => .litp 0xE7
  | .litpE8 => .litp 0xE8
  | .litpE9 => .litp 0xE9
  | .litpEA => .litp 0xEA
  | .litpEB => .litp 0xEB
  | .litpEC => .litp 0xEC
  | .litpED => .litp 0xED
  | .litpEE => .litp 0xEE
  | .litpEF => .litp 0xEF
  | .litpF0 => .litp 0xF0
  | .litpF1 => .litp 0xF1
  | .litpF2 => .litp 0xF2
  | .litpF3 => .litp 0xF3
  | .litpF4 => .litp 0xF4
  | .litpF5 => .litp 0xF5
  | .litpF6 => .litp 0xF6
  | .litpF7 => .litp 0xF7
  | .litpF8 => .litp 0xF8
  | .litpF9 => .litp 0xF9
  | .litpFA => .litp 0xFA
  | .litpFB => .litp 0xFB
  | .litpFC => .litp 0xFC
  | .litpFD => .litp 0xFD
  | .litpFE => .litp 0xFE
  | .litpFF => .litp 0xFF
  | .copy2 j low => .copy2 j low
  | .copyL1 j low => .copy 1 0 j low
  | .copyL2 j low => .copy 2 0 j low
  | .copyL3 j low => .copy 3 0 j low
  | .copyL4 j low => .copy 4 0 j low
  | .copyL5 j low => .copy 5 0 j low
  | .copyL6 j low => .copy 6 0 j low
  | .copyL7 j low => .copy 7 0 j low
  | .copyL8 extra j low => .copy 8 extra.toNat j low
  | .copyL9 extra j low => .copy 9 extra.toNat j low
  | .copyL10 extra j low => .copy 10 extra.toNat j low
  | .copyL11 extra j low => .copy 11 extra.toNat j low
  | .copyL12 extra j low => .copy 12 extra.toNat j low
  | .copyL13 extra j low => .copy 13 extra.toNat j low
  | .copyL14 extra j low => .copy 14 extra.toNat j low
  | .copyL15 extra j low => .copy 15 extra.toNat j low
  | .endOfStream => .endOfStream
  | .offs00 => .offs 0x00
  | .offs01 => .offs 0x01
  | .offs02 => .offs 0x02
  | .offs03 => .offs 0x03
  | .offs04 => .offs 0x04
  | .offs05 => .offs 0x05
  | .offs06 => .offs 0x06
  | .offs07 => .offs 0x07
  | .offs08 => .offs 0x08
  | .offs09 => .offs 0x09
  | .offs0A => .offs 0x0A
  | .offs0B => .offs 0x0B
  | .offs0C => .offs 0x0C
  | .offs0D => .offs 0x0D
  | .offs0E => .offs 0x0E
  | .offs0F => .offs 0x0F
  | .offs10 => .offs 0x10
  | .offs11 => .offs 0x11
  | .offs12 => .offs 0x12
  | .offs13 => .offs 0x13
  | .offs14 => .offs 0x14
  | .offs15 => .offs 0x15
  | .offs16 => .offs 0x16
  | .offs17 => .offs 0x17
  | .offs18 => .offs 0x18
  | .offs19 => .offs 0x19
  | .offs1A => .offs 0x1A
  | .offs1B => .offs 0x1B
  | .offs1C => .offs 0x1C
  | .offs1D => .offs 0x1D
  | .offs1E => .offs 0x1E
  | .offs1F => .offs 0x1F
  | .offs20 => .offs 0x20
  | .offs21 => .offs 0x21
  | .offs22 => .offs 0x22
  | .offs23 => .offs 0x23
  | .offs24 => .offs 0x24
  | .offs25 => .offs 0x25
  | .offs26 => .offs 0x26
  | .offs27 => .offs 0x27
  | .offs28 => .offs 0x28
  | .offs29 => .offs 0x29
  | .offs2A => .offs 0x2A
  | .offs2B => .offs 0x2B
  | .offs2C => .offs 0x2C
  | .offs2D => .offs 0x2D
  | .offs2E => .offs 0x2E
  | .offs2F => .offs 0x2F
  | .offs30 => .offs 0x30
  | .offs31 => .offs 0x31
  | .offs32 => .offs 0x32
  | .offs33 => .offs 0x33
  | .offs34 => .offs 0x34
  | .offs35 => .offs 0x35
  | .offs36 => .offs 0x36
  | .offs37 => .offs 0x37
  | .offs38 => .offs 0x38
  | .offs39 => .offs 0x39
  | .offs3A => .offs 0x3A
  | .offs3B => .offs 0x3B
  | .offs3C => .offs 0x3C
  | .offs3D => .offs 0x3D
  | .offs3E => .offs 0x3E
  | .offs3F => .offs 0x3F

end Sys2Proof
end

