-- ==== Sys2Proof/WellFormed.lean ====
section
/-!
DEFINITION. When an instruction is well formed in a context: what the decoder can answer and the encoder may be given.
-/

namespace Sys2Proof

/-- The dictionary-size code is one a launch accepts (44_fsm.md R123). -/
def Ctx.sizeLegal (c : Ctx) : Bool := 4 ≤ c.dictSizeCode.toNat && c.dictSizeCode.toNat ≤ 6

/-- `LIT8` needs literal mode 0, `LITP` mode 1 (30_encoding.md R51); a `COPY`'s low bits fit the width the dictionary
size gives (R57); length index 15 with extra 255 is `END`, never a copy (R61 (c)); tokens stand at a flag bit and
offset prefixes at the offset part (R64). -/
def wellFormed (c : Ctx) (i : Instr) : Bool :=
  c.sizeLegal &&
  match i.shape with
  | .lit8 _ => !c.atOffset && c.literalModeFlag == 0
  | .litp _ => !c.atOffset && c.literalModeFlag == 1
  | .copy2 _ _ => !c.atOffset
  | .copy i extra _ low =>
      !c.atOffset && Machine.lengthOf i extra != Config.sentinelLength && low.toNat < 2 ^ c.dictSizeCode.toNat
  | .endOfStream => !c.atOffset
  | .offs _ => c.atOffset

end Sys2Proof
end

