-- ==== Sys2Proof/Decode.lean ====
section
/-!
DEFINITION. The decoder, total on any bits, rejecting by name; the encoder written from the same formats
(30_encoding.md R52 to R57); the assembler notation (R63); and the host's reading of an opcode-table word.
`T` is always the bits still to be delivered, as an LSB-first integer (R64).
-/

namespace Sys2Proof

open Machine (field lengthOf lengthPartWidth lowWidth distance)

/-- Why the decoder answers no instruction. The first three are a scan that matches no entry (31_rom_tables.md R71),
which the step turns into `BadData`; none can occur with this ROM (R75). -/
inductive DecodeError where
  /-- `scanCh` matched no entry: raised once the flag is consumed. -/
  | noLiteralCode
  /-- `scanLen` matched no entry: raised once the flag is consumed. -/
  | noLengthCode
  /-- `scanOffs` matched no entry: raised once `consumed` bits (the length part) are consumed and 14 bits refilled. -/
  | noOffsetCode (consumed : Nat)
  /-- The scan answered an index that has no row: only a ROM with more entries than the opcode table could do so. -/
  | noTableRow
  deriving DecidableEq, Repr

/-- Row `LITP.c` at place `c`: the table index is the decoded byte (31_rom_tables.md R74). -/
def literalRows : List Instr :=
  ([.litp00, .litp01, .litp02, .litp03, .litp04, .litp05, .litp06, .litp07] : List Instr) ++
  ([.litp08, .litp09, .litp0A, .litp0B, .litp0C, .litp0D, .litp0E, .litp0F] : List Instr) ++
  ([.litp10, .litp11, .litp12, .litp13, .litp14, .litp15, .litp16, .litp17] : List Instr) ++
  ([.litp18, .litp19, .litp1A, .litp1B, .litp1C, .litp1D, .litp1E, .litp1F] : List Instr) ++
  ([.litp20, .litp21, .litp22, .litp23, .litp24, .litp25, .litp26, .litp27] : List Instr) ++
  ([.litp28, .litp29, .litp2A, .litp2B, .litp2C, .litp2D, .litp2E, .litp2F] : List Instr) ++
  ([.litp30, .litp31, .litp32, .litp33, .litp34, .litp35, .litp36, .litp37] : List Instr) ++
  ([.litp38, .litp39, .litp3A, .litp3B, .litp3C, .litp3D, .litp3E, .litp3F] : List Instr) ++
  ([.litp40, .litp41, .litp42, .litp43, .litp44, .litp45, .litp46, .litp47] : List Instr) ++
  ([.litp48, .litp49, .litp4A, .litp4B, .litp4C, .litp4D, .litp4E, .litp4F] : List Instr) ++
  ([.litp50, .litp51, .litp52, .litp53, .litp54, .litp55, .litp56, .litp57] : List Instr) ++
  ([.litp58, .litp59, .litp5A, .litp5B, .litp5C, .litp5D, .litp5E, .litp5F] : List Instr) ++
  ([.litp60, .litp61, .litp62, .litp63, .litp64, .litp65, .litp66, .litp67] : List Instr) ++
  ([.litp68, .litp69, .litp6A, .litp6B, .litp6C, .litp6D, .litp6E, .litp6F] : List Instr) ++
  ([.litp70, .litp71, .litp72, .litp73, .litp74, .litp75, .litp76, .litp77] : List Instr) ++
  ([.litp78, .litp79, .litp7A, .litp7B, .litp7C, .litp7D, .litp7E, .litp7F] : List Instr) ++
  ([.litp80, .litp81, .litp82, .litp83, .litp84, .litp85, .litp86, .litp87] : List Instr) ++
  ([.litp88, .litp89, .litp8A, .litp8B, .litp8C, .litp8D, .litp8E, .litp8F] : List Instr) ++
  ([.litp90, .litp91, .litp92, .litp93, .litp94, .litp95, .litp96, .litp97] : List Instr) ++
  ([.litp98, .litp99, .litp9A, .litp9B, .litp9C, .litp9D, .litp9E, .litp9F] : List Instr) ++
  ([.litpA0, .litpA1, .litpA2, .litpA3, .litpA4, .litpA5, .litpA6, .litpA7] : List Instr) ++
  ([.litpA8, .litpA9, .litpAA, .litpAB, .litpAC, .litpAD, .litpAE, .litpAF] : List Instr) ++
  ([.litpB0, .litpB1, .litpB2, .litpB3, .litpB4, .litpB5, .litpB6, .litpB7] : List Instr) ++
  ([.litpB8, .litpB9, .litpBA, .litpBB, .litpBC, .litpBD, .litpBE, .litpBF] : List Instr) ++
  ([.litpC0, .litpC1, .litpC2, .litpC3, .litpC4, .litpC5, .litpC6, .litpC7] : List Instr) ++
  ([.litpC8, .litpC9, .litpCA, .litpCB, .litpCC, .litpCD, .litpCE, .litpCF] : List Instr) ++
  ([.litpD0, .litpD1, .litpD2, .litpD3, .litpD4, .litpD5, .litpD6, .litpD7] : List Instr) ++
  ([.litpD8, .litpD9, .litpDA, .litpDB, .litpDC, .litpDD, .litpDE, .litpDF] : List Instr) ++
  ([.litpE0, .litpE1, .litpE2, .litpE3, .litpE4, .litpE5, .litpE6, .litpE7] : List Instr) ++
  ([.litpE8, .litpE9, .litpEA, .litpEB, .litpEC, .litpED, .litpEE, .litpEF] : List Instr) ++
  ([.litpF0, .litpF1, .litpF2, .litpF3, .litpF4, .litpF5, .litpF6, .litpF7] : List Instr) ++
  ([.litpF8, .litpF9, .litpFA, .litpFB, .litpFC, .litpFD, .litpFE, .litpFF] : List Instr)

/-- Row `OFFS.j` at place `j` (31_rom_tables.md R73). -/
def offsetRows : List Instr :=
  ([.offs00, .offs01, .offs02, .offs03, .offs04, .offs05, .offs06, .offs07] : List Instr) ++
  ([.offs08, .offs09, .offs0A, .offs0B, .offs0C, .offs0D, .offs0E, .offs0F] : List Instr) ++
  ([.offs10, .offs11, .offs12, .offs13, .offs14, .offs15, .offs16, .offs17] : List Instr) ++
  ([.offs18, .offs19, .offs1A, .offs1B, .offs1C, .offs1D, .offs1E, .offs1F] : List Instr) ++
  ([.offs20, .offs21, .offs22, .offs23, .offs24, .offs25, .offs26, .offs27] : List Instr) ++
  ([.offs28, .offs29, .offs2A, .offs2B, .offs2C, .offs2D, .offs2E, .offs2F] : List Instr) ++
  ([.offs30, .offs31, .offs32, .offs33, .offs34, .offs35, .offs36, .offs37] : List Instr) ++
  ([.offs38, .offs39, .offs3A, .offs3B, .offs3C, .offs3D, .offs3E, .offs3F] : List Instr)

/-- The copy of length index `i`: `COPY2` for 0, `COPY.Li` for 1 to 15 (30_encoding.md R56, R57). -/
def copyRow (i extra : Nat) (j : BitVec 6) (low : Nat) : Option Instr :=
  match i with
  | 0 => some (.copy2 j (BitVec.ofNat 2 low))
  | 1 => some (.copyL1 j (BitVec.ofNat 6 low))
  | 2 => some (.copyL2 j (BitVec.ofNat 6 low))
  | 3 => some (.copyL3 j (BitVec.ofNat 6 low))
  | 4 => some (.copyL4 j (BitVec.ofNat 6 low))
  | 5 => some (.copyL5 j (BitVec.ofNat 6 low))
  | 6 => some (.copyL6 j (BitVec.ofNat 6 low))
  | 7 => some (.copyL7 j (BitVec.ofNat 6 low))
  | 8 => some (.copyL8 (BitVec.ofNat 1 extra) j (BitVec.ofNat 6 low))
  | 9 => some (.copyL9 (BitVec.ofNat 2 extra) j (BitVec.ofNat 6 low))
  | 10 => some (.copyL10 (BitVec.ofNat 3 extra) j (BitVec.ofNat 6 low))
  | 11 => some (.copyL11 (BitVec.ofNat 4 extra) j (BitVec.ofNat 6 low))
  | 12 => some (.copyL12 (BitVec.ofNat 5 extra) j (BitVec.ofNat 6 low))
  | 13 => some (.copyL13 (BitVec.ofNat 6 extra) j (BitVec.ofNat 6 low))
  | 14 => some (.copyL14 (BitVec.ofNat 7 extra) j (BitVec.ofNat 6 low))
  | 15 => some (.copyL15 (BitVec.ofNat 8 extra) j (BitVec.ofNat 6 low))
  | _ => none

/-- Name a missing row. -/
def rowOr (r : Option Instr) : Except DecodeError Instr :=
  match r with
  | some i => .ok i
  | none => .error .noTableRow

/-- A flag-0 token (43_tokens.md R100 to R102). -/
def decodeLiteral (c : Ctx) (T : Nat) : Except DecodeError Instr :=
  if c.literalModeFlag = 0 then .ok (.lit8 (BitVec.ofNat 8 (field T 1 8)))
  else
    match Rom.scanCh (T >>> 1) with
    | none => .error .noLiteralCode
    | some k => rowOr literalRows[k]?

/-- The offset part of a copy whose length part, `p` bits of `T`, gave length index `i` and `extra`
(43_tokens.md R105 to R107). -/
def decodeCopy (c : Ctx) (T p i extra : Nat) : Except DecodeError Instr :=
  match Rom.scanOffs (T >>> p) with
  | none => .error (.noOffsetCode p)
  | some j =>
    rowOr (copyRow i extra (BitVec.ofNat 6 j)
      (field T (p + Rom.offsBits j) (lowWidth c.dictSizeCode.toNat (lengthOf i extra))))

/-- A flag-1 token: the length part, then the sentinel test before anything of the offset is looked at
(43_tokens.md R103, R104). -/
def decodeLength (c : Ctx) (T : Nat) : Except DecodeError Instr :=
  match Rom.scanLen (T >>> 1) with
  | none => .error .noLengthCode
  | some i =>
    let extra := field T (1 + Rom.lenBits i) (Rom.exLenBits i)
    if lengthOf i extra = Config.sentinelLength then .ok .endOfStream
    else decodeCopy c T (lengthPartWidth i) i extra

/-- An offset prefix standing alone (43_tokens.md R105). -/
def decodeOffset (T : Nat) : Except DecodeError Instr :=
  match Rom.scanOffs T with
  | none => .error (.noOffsetCode 0)
  | some j => rowOr offsetRows[j]?

/-- The decoder (30_encoding.md R51): the flag bit, then the mode or the length part. -/
def decode (c : Ctx) (T : Nat) : Except DecodeError Instr :=
  if c.atOffset then decodeOffset T
  else if T % 2 = 0 then decodeLiteral c T
  else decodeLength c T

/-- Bytes as the LSB-first integer they carry: the byte at the lower address first, its bit 0 first
(20_memory.md R35). -/
def bytesToNat : List Byte → Nat
  | [] => 0
  | b :: rest => b.toNat + 256 * bytesToNat rest

/-- The decoder on the bytes of a stream that starts at bit 0 of the first one. -/
def decodeBytes (c : Ctx) (bytes : List Byte) : Except DecodeError Instr := decode c (bytesToNat bytes)

/-! ### The encoder -/

/-- A string of bits: its width and its value as an LSB-first integer. -/
structure Bits where
  width : Nat
  value : Nat
  deriving DecidableEq, Repr

/-- `a` delivered first, then `b`. -/
def Bits.cat (a b : Bits) : Bits := ⟨a.width + b.width, a.value + 2 ^ a.width * b.value⟩

/-- The length part of index `i`: flag 1, the length code, the extra bits (30_encoding.md R54). -/
def lengthBits (i extra : Nat) : Bits :=
  (⟨1, 1⟩ : Bits).cat ((⟨Rom.lenBits i, Rom.lenCode i⟩ : Bits).cat ⟨Rom.exLenBits i, extra⟩)

/-- The offset prefix of index `j` (30_encoding.md R56, R57). -/
def offsetBits (j : Nat) : Bits := ⟨Rom.offsBits j, Rom.offsCode j⟩

/-- The bits of an instruction (30_encoding.md R52 to R57). Only `COPY` depends on the context, through the width of
its low distance bits. -/
def encode (c : Ctx) (i : Instr) : Bits :=
  match i.shape with
  | .lit8 byte => (⟨1, 0⟩ : Bits).cat ⟨8, byte.toNat⟩
  | .litp b => (⟨1, 0⟩ : Bits).cat ⟨Rom.chBits b.toNat, Rom.chCode b.toNat⟩
  | .copy2 j low => (lengthBits 0 0).cat ((offsetBits j.toNat).cat ⟨2, low.toNat⟩)
  | .copy i extra j low =>
      (lengthBits i extra).cat ((offsetBits j.toNat).cat ⟨c.dictSizeCode.toNat, low.toNat⟩)
  | .endOfStream => lengthBits 15 255
  | .offs j => offsetBits j.toNat

/-- How far the bit cursor moves over the instruction (30_encoding.md R60). -/
def tokenWidth (c : Ctx) (i : Instr) : Nat := (encode c i).width

/-! ### The assembler notation (30_encoding.md R63) -/

/-- `LIT b`: `LIT8` under mode 0, `LITP` under mode 1. -/
def asmLit (c : Ctx) (b : Byte) : Option Instr :=
  if c.literalModeFlag = 0 then some (.lit8 b) else literalRows[b.toNat]?

/-- The largest index with `LenBase[i] ≤ L`, among the first `n` entries. -/
def lengthIndex : Nat → Nat → Nat
  | 0, _ => 0
  | n + 1, L => if Rom.lenBase n ≤ L then n else lengthIndex n L

/-- `COPY L, D`, for `2 ≤ L ≤ 518`; no instruction where the offset index would exceed 63. -/
def asmCopy (c : Ctx) (L D : Nat) : Option Instr :=
  let i := lengthIndex 16 L
  let w := lowWidth c.dictSizeCode.toNat L
  if 2 ≤ L ∧ L ≤ 518 ∧ D >>> w ≤ 63 then copyRow i (L - Rom.lenBase i) (BitVec.ofNat 6 (D >>> w)) (D % 2 ^ w)
  else none

/-- The bits of a stream of instructions: no gap, no alignment (30_encoding.md R50). -/
def encodeStream (c : Ctx) : List Instr → Bits
  | [] => ⟨0, 0⟩
  | i :: rest => (encode c i).cat (encodeStream c rest)

/-- `n` bytes of an LSB-first integer, lowest first (20_memory.md R35). -/
def natToBytes : Nat → Nat → List Byte
  | 0, _ => []
  | n + 1, v => BitVec.ofNat 8 v :: natToBytes n (v / 256)

/-- The input image of a program: the two header bytes, then the packed stream, the last byte padded with zeros
(30_encoding.md R50, R63). -/
def assemble (c : Ctx) (prog : List Instr) : List Byte :=
  let b := encodeStream c prog
  c.literalModeFlag.setWidth 8 :: c.dictSizeCode.setWidth 8 :: natToBytes ((b.width + 7) / 8) b.value

/-! ### Words of the opcode table -/

/-- A row's `match` and `width` columns (30_encoding.md R64): the flag alone for `LIT8`, flag and prefix code for
`LITP` and the copies, the whole token for `END`, the offset code for `OFFS`. -/
def rowPattern (i : Instr) : Bits :=
  match i.shape with
  | .lit8 _ => ⟨1, 0⟩
  | .litp b => (⟨1, 0⟩ : Bits).cat ⟨Rom.chBits b.toNat, Rom.chCode b.toNat⟩
  | .copy2 _ _ => (⟨1, 1⟩ : Bits).cat ⟨Rom.lenBits 0, Rom.lenCode 0⟩
  | .copy i _ _ _ => (⟨1, 1⟩ : Bits).cat ⟨Rom.lenBits i, Rom.lenCode i⟩
  | .endOfStream => lengthBits 15 255
  | .offs j => offsetBits j.toNat

/-- The word `w` of `nbits` bits is row `i`'s pattern with every other bit zero, rounded up to whole bytes. -/
def rowMatches (nbits w : Nat) (i : Instr) : Bool :=
  let r := rowPattern i
  r.value == w && (r.width + 7) / 8 * 8 == nbits

/-- The contexts a table word may be read in, in the order of the table's rows: `LIT8` and the copies, `LITP`, `OFFS`. -/
def tableContexts : List Ctx := [⟨0, 4, false⟩, ⟨1, 4, false⟩, ⟨0, 4, true⟩]

/-- The context the table word is read in: rows of different contexts overlap, and a bare word does not say its
context (R64's `when` column). The first context in which the word is exactly a row's pattern; a word that is no row's
pattern is a token of literal mode 0 (DESIGN CHOICE, log 10). -/
def tableContext (nbits w : Nat) : Ctx :=
  (tableContexts.find? fun c =>
    match decode c w with
    | .ok i => rowMatches nbits w i
    | .error _ => false).getD ⟨0, 4, false⟩

/-- The bytes of a table word: bit 0 is bit 0 of the byte at the lowest address (20_memory.md R35), and the bits above
`nbits` are zero, up to the longest instruction (30 bits, R60). -/
def wordBytes (nbits w : Nat) : List Byte := natToBytes (max 4 ((nbits + 7) / 8)) (w % 2 ^ nbits)

/-- The instruction the decoder reads from a word of the opcode table. -/
def decodeTableWord (nbits w : Nat) : Option Instr :=
  match decodeBytes (tableContext nbits w) (wordBytes nbits w) with
  | .ok i => some i
  | .error _ => none

end Sys2Proof
end

