-- ==== Sys2Proof/Machine/State.lean ====
section
/-!
DEFINITION. The state of the core (10_state.md R10), plain data; the reasons a step can stop; the state after power-on.
-/

namespace Sys2Proof.Machine

/-- Sparse memory: cells in strictly rising address order (20_memory.md R30, R38). An address that is not listed holds
no value: no spec rule gives unwritten bytes of `DICT`, `OUT` or `IN` one (U4, U9; log 3, log 4). -/
abbrev Memory := List Host.Cell

/-- The states of the decode loop (10_state.md R20, 44_fsm.md R120). -/
inductive Fsm where
  | idle | readToken | done | failed
  deriving DecidableEq, Repr

/-- The contents of `err` (10_state.md R21, 60_exceptions.md R140): no fault, or the kind of the fault. -/
inductive ErrKind where
  | none | incompleteInput | badData | bufferTooSmall
  deriving DecidableEq, Repr

/-- What the host can do to the machine while no decode runs (44_fsm.md R132, 70_reset_and_hazards.md R173). -/
inductive HostMove where
  /-- Place bytes in `IN` from an address on. -/
  | fillIn (base : Nat) (bytes : List Byte)
  /-- Give `OUT` the host's own bytes from an address on. -/
  | fillOut (base : Nat) (bytes : List Byte)
  /-- `launch(inputBase, inputLen, outputLen)` (44_fsm.md R121). -/
  | launch (inputBase inputLen outputLen : Nat)
  deriving DecidableEq, Repr

/-- Everything the spec gives the core, and three fields of the model's own. Counts and positions are naturals with
their ranges as an invariant, which 10_state.md R10 allows (D5; log 6). -/
structure State where
  /-- R11: bit 0 is the next bit to be delivered. -/
  bitAccumulator  : Word
  /-- R12: how many bits of the accumulator are valid. -/
  bitCount        : Nat
  /-- R13: the index in `IN` of the next byte to fetch. -/
  inputPos        : Nat
  /-- R15: the index in `OUT` of the next byte to write. -/
  outputPos       : Nat
  /-- R16: the next write address of `DICT`. -/
  dictWritePos    : Nat
  /-- R17: how many bytes of `DICT` are valid. -/
  dictFilledSize  : Nat
  /-- R18. -/
  literalModeFlag : BitVec 1
  /-- R19. -/
  dictSizeCode    : BitVec 3
  /-- R20. -/
  fsm             : Fsm
  /-- R21. -/
  err             : ErrKind
  /-- `DICT`, 20_memory.md R33. -/
  dict            : Memory
  /-- `OUT`, 20_memory.md R32. -/
  out             : Memory
  /-- `IN`, 20_memory.md R31. No instruction writes it. -/
  input           : Memory
  /-- Launch parameters, 10_state.md R22. -/
  inputBase       : Nat
  inputLen        : Nat
  outputLen       : Nat
  /-- The model's own (log 9): the length of a copy whose length part has been consumed and whose offset part comes
  next, the local variable `length` of 43_tokens.md R100. `none` at every step boundary of the spec. -/
  pendingLength   : Option Nat
  /-- The model's own (log 12): the host's next moves, oldest first. -/
  hostMoves       : List HostMove
  /-- The model's own (log 5): how many free values have been drawn. -/
  freeIndex       : Nat
  deriving DecidableEq, Repr

/-- An access to an address that does not exist or holds no value. No rule of the spec makes one (20_memory.md R31, R32;
42_dictionary.md R92; 10_state.md R24): these stop only operations run in states no run reaches, or a host that
launched without filling `IN`. All are safe: the model stops where the spec describes nothing (log 3, 4, 14). The
spec's own three faults are NOT here: raising one is a next state (60_exceptions.md R147). -/
inductive Fault where
  /-- A read of `IN` at or beyond `inputLen`; raised by `readIn`. Safe. -/
  | inAddress
  /-- A read of a byte of `IN` that the host never wrote; raised by `readIn`. Safe. -/
  | inUnwritten
  /-- A write of `OUT` at or beyond `outputLen`; raised by `emit`. Safe. -/
  | outAddress
  /-- A `DICT` address of 4096 or more; raised by `emit` and `readBack`. Safe. -/
  | dictAddress
  /-- A read of a `DICT` byte that nothing has written; raised by `readBack`. Safe. -/
  | dictUnwritten
  deriving DecidableEq, Repr

/-- What has no meaning in the model. -/
inductive Refusal where
  /-- An instruction whose meaning is not written yet; answered by `exec`'s own arms only. Safe. -/
  | notModelled (mnemonic : String)
  /-- `consume(k)` or `peek(k)` with `k > bitCount`: "a model refuses it" (41_bit_reader.md R83, U7); raised by `consume`
  and `peek`. Safe (log 15). -/
  | bitsNotAvailable
  /-- A launch while a decode runs: not a host move (44_fsm.md R121, U10); raised by `launch`. Safe. -/
  | launchWhileRunning
  /-- "No step exists" from `Idle`, `Done` or `Failed` without a host move (44_fsm.md R129); raised by `step`. Safe (log 13). -/
  | noStep
  /-- The decoder found a table index without a row, which no ROM of the spec's sizes has; raised by `step`. Safe (log 18). -/
  | noTableRow
  deriving DecidableEq, Repr

/-- Power-on (70_reset_and_hazards.md R170): `fsm = Idle`, `err = 0`, nothing written to any memory. Every other value
is "unspecified" in the spec: DESIGN CHOICE 0 (log 2), no rule reads one before a launch writes it (10_state.md R26). -/
def State.reset : State where
  bitAccumulator  := 0
  bitCount        := 0
  inputPos        := 0
  outputPos       := 0
  dictWritePos    := 0
  dictFilledSize  := 0
  literalModeFlag := 0
  dictSizeCode    := 0
  fsm             := .idle
  err             := .none
  dict            := []
  out             := []
  input           := []
  inputBase       := 0
  inputLen        := 0
  outputLen       := 0
  pendingLength   := none
  hostMoves       := []
  freeIndex       := 0

/-- What an operation answers: a value, or the outcome that ends the step there. -/
abbrev Res (α : Type) := Except (Host.Outcome State Fault Refusal) α

end Sys2Proof.Machine
end

