-- ==== Sys2Proof/Machine/Flags.lean ====
section
/-!
DEFINITION. Status. The core has no condition code, carry or overflow flag: no token computes a result whose status is
recorded (10_state.md R21). What it has is the status pair (`fsm`, `err`), and conditions computed from registers.
-/

namespace Sys2Proof.Machine

/-- The encoding of `fsm` (10_state.md R20, D7). -/
def Fsm.code : Fsm → BitVec 2
  | .idle => 0
  | .readToken => 1
  | .done => 2
  | .failed => 3

/-- The encoding of `err` (60_exceptions.md R140, D7). -/
def ErrKind.code : ErrKind → BitVec 2
  | .none => 0
  | .incompleteInput => 1
  | .badData => 2
  | .bufferTooSmall => 3

/-- `dictSize = 64 << dictSizeCode`, a function of the register, not a register (10_state.md R19). -/
def State.dictSize (s : State) : Nat := 64 <<< s.dictSizeCode.toNat

/-- "Output is full" (10_state.md R15). -/
def State.outputFull (s : State) : Bool := s.outputPos == s.outputLen

/-- The bit cursor, the core's program counter: how many bits of the token stream have been delivered (10_state.md R14).
An integer, so that it is defined in states no run reaches too. -/
def State.bitCursor (s : State) : Int := 8 * ((s.inputPos : Int) - s.inputBase - 2) - s.bitCount

end Sys2Proof.Machine
end

