-- ==== Sys2Proof/Machine/Ops.lean ====
section
/-!
DEFINITION. The shared operations: memory, the Bit Reader (41_bit_reader.md), the sliding dictionary (42_dictionary.md),
the parts of a copy token (43_tokens.md), and raising a fault (60_exceptions.md R147).
-/

namespace Sys2Proof.Machine

/-! ### Memory -/

/-- The byte at an address, `none` where nothing has been written. -/
def Memory.read : Memory → Nat → Option Byte
  | [], _ => none
  | (x, b) :: rest, a => if x = a then some b else Memory.read rest a

/-- Write one byte, keeping the cells in rising order. -/
def Memory.write : Memory → Nat → Byte → Memory
  | [], a, b => [(a, b)]
  | (x, c) :: rest, a, b =>
    if a < x then (a, b) :: (x, c) :: rest
    else if a = x then (a, b) :: rest
    else (x, c) :: Memory.write rest a b

/-- Write bytes at consecutive addresses. -/
def Memory.writeBytes : Memory → Nat → List Byte → Memory
  | m, _, [] => m
  | m, a, b :: rest => Memory.writeBytes (m.write a b) (a + 1) rest

/-- The canonical form: strictly rising addresses. (An unlisted address holds no value, so no entry can repeat one.) -/
abbrev Memory.wf (m : Memory) : Prop := m.Pairwise fun x y => x.1 < y.1

/-- `MemRead(IN, a, 1)` (00_scope.md R7, 20_memory.md R31). -/
def readIn (a : Nat) (s : State) : Res Byte :=
  if s.inputLen ≤ a then .error (.fault .inAddress)
  else
    match s.input.read a with
    | some b => .ok b
    | none => .error (.fault .inUnwritten)

/-! ### Faults of the spec -/

/-- The registers after `raise E`: `err <- E; fsm <- Failed`, every other register and memory as it is at the `raise`
(60_exceptions.md R147, 00_scope.md R7). The model's own `pendingLength`, a local variable of the step that ends, is gone. -/
def State.raised (e : ErrKind) (s : State) : State := { s with err := e, fsm := .failed, pendingLength := none }

/-- `raise E` (60_exceptions.md R147): the step ends there, in a next state. There is no return from a fault: the only way
on is a new launch, which clears `err` (60_exceptions.md R148; `launch`). -/
def raise {α : Type} (e : ErrKind) (s : State) : Res α := .error (.next (s.raised e))

/-- The outcome of a step whose last operation answered `r`. -/
def Res.outcome (r : Res State) : Host.Outcome State Fault Refusal :=
  match r with
  | .ok s => .next s
  | .error o => o

/-! ### The Bit Reader -/

/-- `peek(k)`: the low `k` bits of the accumulator, nothing consumed; refused beyond the bits held
(41_bit_reader.md R81, R83). -/
def peek (k : Nat) (s : State) : Res Nat :=
  if k ≤ s.bitCount then .ok (s.bitAccumulator.toNat % 2 ^ k) else .error (.refused .bitsNotAvailable)

/-- The registers after `consume(k)` (41_bit_reader.md R82). -/
def State.consumed (k : Nat) (s : State) : State :=
  { s with bitAccumulator := s.bitAccumulator >>> k, bitCount := s.bitCount - k }

/-- `consume(k)`; refused beyond the bits held (41_bit_reader.md R82, R83). -/
def consume (k : Nat) (s : State) : Res State :=
  if k ≤ s.bitCount then .ok (s.consumed k) else .error (.refused .bitsNotAvailable)

/-- The registers after `refill` has fetched the byte `b` (the body of the loop of 41_bit_reader.md R80). -/
def State.fetched (b : Byte) (s : State) : State :=
  { s with
    bitAccumulator := s.bitAccumulator ||| b.setWidth 32 <<< s.bitCount
    bitCount := s.bitCount + 8
    inputPos := s.inputPos + 1 }

/-- One turn of the loop of `refill`: `IncompleteInput` at the end of the input, which the bytes already fetched survive
(41_bit_reader.md R80 (c)). -/
def fetchByte (s : State) : Res State :=
  if s.inputLen ≤ s.inputPos then raise .incompleteInput s
  else do
    let b ← readIn s.inputPos s
    .ok (s.fetched b)

/-- `while bitCount < N`, for at most `fuel` turns. -/
def refillLoop : Nat → Nat → State → Res State
  | 0, _, s => .ok s
  | fuel + 1, N, s =>
    if s.bitCount < N then do
      let s ← fetchByte s
      refillLoop fuel N s
    else .ok s

/-- `refill(N)` (41_bit_reader.md R80). A turn adds 8 bits, so `N` turns always suffice. -/
def refill (N : Nat) (s : State) : Res State := refillLoop N N s

/-- The next `n` bytes of `IN` from `a` on as an LSB-first integer; bytes that do not exist count as zero. -/
def nextBytes : Nat → Nat → State → Nat
  | 0, _, _ => 0
  | n + 1, a, s =>
    (if a < s.inputLen then ((s.input.read a).getD 0).toNat else 0) + 256 * nextBytes n (a + 1) s

/-- The bits still to be delivered, from bit 0: the accumulator's, then those of the bytes not fetched yet (10_state.md
R14, 20_memory.md R35). Four bytes cover the longest token, 30 bits (30_encoding.md R60). The decoder reads a whole token
here at once; what of it the machine has NOT fetched when it needs it is still missed by `refill` (log 8). -/
def State.window (s : State) : Nat := s.bitAccumulator.toNat ||| nextBytes 4 s.inputPos s <<< s.bitCount

/-! ### The sliding dictionary -/

/-- The state after `emit(b)`: the `OUT` and `DICT` writes and the three registers, one event (42_dictionary.md R90,
20_memory.md R42). -/
def State.emitted (b : Byte) (s : State) : State :=
  { s with
    out := s.out.write s.outputPos b
    dict := s.dict.write s.dictWritePos b
    outputPos := s.outputPos + 1
    dictWritePos := (s.dictWritePos + 1) % s.dictSize
    dictFilledSize := if s.dictFilledSize < s.dictSize then s.dictFilledSize + 1 else s.dictFilledSize }

/-- `emit(b)` (42_dictionary.md R90). Its callers establish `outputPos < outputLen`; where they do not, the address does
not exist. -/
def emit (b : Byte) (s : State) : Res State :=
  if s.outputLen ≤ s.outputPos then .error (.fault .outAddress)
  else if Config.dictCap ≤ s.dictWritePos then .error (.fault .dictAddress)
  else .ok (s.emitted b)

/-- The `DICT` address of raw distance `D`: `dictWritePos - 1 - D` wrapped into `[0, dictFilledSize)`. R91's loops are the
Euclidean remainder (42_dictionary.md R92). -/
def State.readBackPos (D : Nat) (s : State) : Nat :=
  (((s.dictWritePos : Int) - 1 - D) % (s.dictFilledSize : Int)).toNat

/-- `readBack(D)` (42_dictionary.md R91); `BadData` on an empty dictionary, before the RAM is touched (R93). -/
def readBack (D : Nat) (s : State) : Res Byte :=
  if s.dictFilledSize = 0 then raise .badData s
  else if Config.dictCap ≤ s.readBackPos D then .error (.fault .dictAddress)
  else
    match s.dict.read (s.readBackPos D) with
    | some b => .ok b
    | none => .error (.fault .dictUnwritten)

/-- `copy(L, D)`, byte by byte: the bound, the read, the write (42_dictionary.md R94). -/
def copyBytes : Nat → Nat → State → Res State
  | 0, _, s => .ok s
  | L + 1, D, s =>
    if s.outputPos = s.outputLen then raise .bufferTooSmall s
    else do
      let b ← readBack D s
      let s ← emit b s
      copyBytes L D s

/-! ### The parts of a token -/

/-- The flag, the length code of index `i` and its extra bits are consumed, in this order (43_tokens.md R100, R103). -/
def lengthPart (i : Nat) (s : State) : Res State := do
  let s ← consume 1 s
  let s ← consume (Rom.lenBits i) s
  consume (Rom.exLenBits i) s

/-- `offsetPrefix()` where the scan answers `j`: `refill(14)`, then the code is consumed (43_tokens.md R105). -/
def offsetPrefix (j : Nat) (s : State) : Res State := do
  let s ← refill Config.offsetLookahead s
  consume (Rom.offsBits j) s

/-- The end of a copy of `length` bytes: the low distance bits are consumed, the distance is put together, the bytes are
copied (43_tokens.md R106, R107). -/
def copyBody (length j low : Nat) (s : State) : Res State := do
  let w := lowWidth s.dictSizeCode.toNat length
  let s ← consume w s
  copyBytes length (distance w j low) s

end Sys2Proof.Machine
end

