-- ==== Sys2Proof/Machine/Control.lean ====
section
/-!
DEFINITION. `END`, the one token that transfers control (43_tokens.md R104, 44_fsm.md R134).
-/

namespace Sys2Proof.Machine

/-- `fsm <- Done`, nothing else (43_tokens.md R104, 44_fsm.md R126). -/
def State.finished (s : State) : State := { s with fsm := .done }

/-- `END`: the length part of index 15, then `Done`. No offset is read, nothing is emitted, no bound is looked at
(43_tokens.md R104). -/
def execEnd (s : State) : Host.Outcome State Fault Refusal :=
  Res.outcome (do
    let s ← lengthPart 15 s
    .ok s.finished)

end Sys2Proof.Machine
end

