-- ==== Sys2Proof/Machine/Copy.lean ====
section
/-!
DEFINITION. The copy tokens `COPY2` and `COPY.L1` to `COPY.L15` (43_tokens.md R103, R105 to R107), one meaning per row.
-/

namespace Sys2Proof.Machine

/-- A copy of length index `i` whole, from its flag bit: length part, offset prefix, low distance bits, then the bytes
(the order of 44_fsm.md R125). -/
def copyToken (i extra : Nat) (j low : Nat) (s : State) : Host.Outcome State Fault Refusal :=
  Res.outcome (do
    let s ← lengthPart i s
    let s ← offsetPrefix j s
    copyBody (lengthOf i extra) j low s)

/-- `COPY2`: length 2, two low distance bits whatever the dictionary size (43_tokens.md R106). -/
def execCopy2 (j : BitVec 6) (low : BitVec 2) (s : State) : Host.Outcome State Fault Refusal :=
  copyToken 0 0 j.toNat low.toNat s

/-! `COPY.Li`: length `LenBase[i] + extra`, `dictSizeCode` low distance bits (43_tokens.md R107). -/

def execCopyL1 (j low : BitVec 6) (s : State) : Host.Outcome State Fault Refusal :=
  copyToken 1 0 j.toNat low.toNat s
def execCopyL2 (j low : BitVec 6) (s : State) : Host.Outcome State Fault Refusal :=
  copyToken 2 0 j.toNat low.toNat s
def execCopyL3 (j low : BitVec 6) (s : State) : Host.Outcome State Fault Refusal :=
  copyToken 3 0 j.toNat low.toNat s
def execCopyL4 (j low : BitVec 6) (s : State) : Host.Outcome State Fault Refusal :=
  copyToken 4 0 j.toNat low.toNat s
def execCopyL5 (j low : BitVec 6) (s : State) : Host.Outcome State Fault Refusal :=
  copyToken 5 0 j.toNat low.toNat s
def execCopyL6 (j low : BitVec 6) (s : State) : Host.Outcome State Fault Refusal :=
  copyToken 6 0 j.toNat low.toNat s
def execCopyL7 (j low : BitVec 6) (s : State) : Host.Outcome State Fault Refusal :=
  copyToken 7 0 j.toNat low.toNat s
def execCopyL8 (extra : BitVec 1) (j low : BitVec 6) (s : State) : Host.Outcome State Fault Refusal :=
  copyToken 8 extra.toNat j.toNat low.toNat s
def execCopyL9 (extra : BitVec 2) (j low : BitVec 6) (s : State) : Host.Outcome State Fault Refusal :=
  copyToken 9 extra.toNat j.toNat low.toNat s
def execCopyL10 (extra : BitVec 3) (j low : BitVec 6) (s : State) : Host.Outcome State Fault Refusal :=
  copyToken 10 extra.toNat j.toNat low.toNat s
def execCopyL11 (extra : BitVec 4) (j low : BitVec 6) (s : State) : Host.Outcome State Fault Refusal :=
  copyToken 11 extra.toNat j.toNat low.toNat s
def execCopyL12 (extra : BitVec 5) (j low : BitVec 6) (s : State) : Host.Outcome State Fault Refusal :=
  copyToken 12 extra.toNat j.toNat low.toNat s
def execCopyL13 (extra : BitVec 6) (j low : BitVec 6) (s : State) : Host.Outcome State Fault Refusal :=
  copyToken 13 extra.toNat j.toNat low.toNat s
def execCopyL14 (extra : BitVec 7) (j low : BitVec 6) (s : State) : Host.Outcome State Fault Refusal :=
  copyToken 14 extra.toNat j.toNat low.toNat s
def execCopyL15 (extra : BitVec 8) (j low : BitVec 6) (s : State) : Host.Outcome State Fault Refusal :=
  copyToken 15 extra.toNat j.toNat low.toNat s

end Sys2Proof.Machine
end

