-- ==== Sys2Proof/Machine/Literal.lean ====
section
/-!
DEFINITION. The literal tokens (43_tokens.md R101, R102): `LIT8`, and one meaning per literal code `LITP.00` to `LITP.FF`.
The machine has refilled 16 bits before (R100); an instruction's meaning starts at its flag bit.
-/

namespace Sys2Proof.Machine

/-- `LIT8`: the flag, then eight bits that are the byte (43_tokens.md R101). -/
def execLit8 (byte : Byte) (s : State) : Host.Outcome State Fault Refusal :=
  Res.outcome (do
    let s ← consume 1 s
    let s ← consume 8 s
    emit byte s)

/-- `LITP`: the flag, then the literal code of `c`; the decoded byte is the table index `c` (43_tokens.md R102). -/
def litp (c : Byte) (s : State) : Host.Outcome State Fault Refusal :=
  Res.outcome (do
    let s ← consume 1 s
    let s ← consume (Rom.chBits c.toNat) s
    emit c s)

def execLitp00 (s : State) : Host.Outcome State Fault Refusal := litp 0x00 s
def execLitp01 (s : State) : Host.Outcome State Fault Refusal := litp 0x01 s
def execLitp02 (s : State) : Host.Outcome State Fault Refusal := litp 0x02 s
def execLitp03 (s : State) : Host.Outcome State Fault Refusal := litp 0x03 s
def execLitp04 (s : State) : Host.Outcome State Fault Refusal := litp 0x04 s
def execLitp05 (s : State) : Host.Outcome State Fault Refusal := litp 0x05 s
def execLitp06 (s : State) : Host.Outcome State Fault Refusal := litp 0x06 s
def execLitp07 (s : State) : Host.Outcome State Fault Refusal := litp 0x07 s
def execLitp08 (s : State) : Host.Outcome State Fault Refusal := litp 0x08 s
def execLitp09 (s : State) : Host.Outcome State Fault Refusal := litp 0x09 s
def execLitp0A (s : State) : Host.Outcome State Fault Refusal := litp 0x0A s
def execLitp0B (s : State) : Host.Outcome State Fault Refusal := litp 0x0B s
def execLitp0C (s : State) : Host.Outcome State Fault Refusal := litp 0x0C s
def execLitp0D (s : State) : Host.Outcome State Fault Refusal := litp 0x0D s
def execLitp0E (s : State) : Host.Outcome State Fault Refusal := litp 0x0E s
def execLitp0F (s : State) : Host.Outcome State Fault Refusal := litp 0x0F s
def execLitp10 (s : State) : Host.Outcome State Fault Refusal := litp 0x10 s
def execLitp11 (s : State) : Host.Outcome State Fault Refusal := litp 0x11 s
def execLitp12 (s : State) : Host.Outcome State Fault Refusal := litp 0x12 s
def execLitp13 (s : State) : Host.Outcome State Fault Refusal := litp 0x13 s
def execLitp14 (s : State) : Host.Outcome State Fault Refusal := litp 0x14 s
def execLitp15 (s : State) : Host.Outcome State Fault Refusal := litp 0x15 s
def execLitp16 (s : State) : Host.Outcome State Fault Refusal := litp 0x16 s
def execLitp17 (s : State) : Host.Outcome State Fault Refusal := litp 0x17 s
def execLitp18 (s : State) : Host.Outcome State Fault Refusal := litp 0x18 s
def execLitp19 (s : State) : Host.Outcome State Fault Refusal := litp 0x19 s
def execLitp1A (s : State) : Host.Outcome State Fault Refusal := litp 0x1A s
def execLitp1B (s : State) : Host.Outcome State Fault Refusal := litp 0x1B s
def execLitp1C (s : State) : Host.Outcome State Fault Refusal := litp 0x1C s
def execLitp1D (s : State) : Host.Outcome State Fault Refusal := litp 0x1D s
def execLitp1E (s : State) : Host.Outcome State Fault Refusal := litp 0x1E s
def execLitp1F (s : State) : Host.Outcome State Fault Refusal := litp 0x1F s
def execLitp20 (s : State) : Host.Outcome State Fault Refusal := litp 0x20 s
def execLitp21 (s : State) : Host.Outcome State Fault Refusal := litp 0x21 s
def execLitp22 (s : State) : Host.Outcome State Fault Refusal := litp 0x22 s
def execLitp23 (s : State) : Host.Outcome State Fault Refusal := litp 0x23 s
def execLitp24 (s : State) : Host.Outcome State Fault Refusal := litp 0x24 s
def execLitp25 (s : State) : Host.Outcome State Fault Refusal := litp 0x25 s
def execLitp26 (s : State) : Host.Outcome State Fault Refusal := litp 0x26 s
def execLitp27 (s : State) : Host.Outcome State Fault Refusal := litp 0x27 s
def execLitp28 (s : State) : Host.Outcome State Fault Refusal := litp 0x28 s
def execLitp29 (s : State) : Host.Outcome State Fault Refusal := litp 0x29 s
def execLitp2A (s : State) : Host.Outcome State Fault Refusal := litp 0x2A s
def execLitp2B (s : State) : Host.Outcome State Fault Refusal := litp 0x2B s
def execLitp2C (s : State) : Host.Outcome State Fault Refusal := litp 0x2C s
def execLitp2D (s : State) : Host.Outcome State Fault Refusal := litp 0x2D s
def execLitp2E (s : State) : Host.Outcome State Fault Refusal := litp 0x2E s
def execLitp2F (s : State) : Host.Outcome State Fault Refusal := litp 0x2F s
def execLitp30 (s : State) : Host.Outcome State Fault Refusal := litp 0x30 s
def execLitp31 (s : State) : Host.Outcome State Fault Refusal := litp 0x31 s
def execLitp32 (s : State) : Host.Outcome State Fault Refusal := litp 0x32 s
def execLitp33 (s : State) : Host.Outcome State Fault Refusal := litp 0x33 s
def execLitp34 (s : State) : Host.Outcome State Fault Refusal := litp 0x34 s
def execLitp35 (s : State) : Host.Outcome State Fault Refusal := litp 0x35 s
def execLitp36 (s : State) : Host.Outcome State Fault Refusal := litp 0x36 s
def execLitp37 (s : State) : Host.Outcome State Fault Refusal := litp 0x37 s
def execLitp38 (s : State) : Host.Outcome State Fault Refusal := litp 0x38 s
def execLitp39 (s : State) : Host.Outcome State Fault Refusal := litp 0x39 s
def execLitp3A (s : State) : Host.Outcome State Fault Refusal := litp 0x3A s
def execLitp3B (s : State) : Host.Outcome State Fault Refusal := litp 0x3B s
def execLitp3C (s : State) : Host.Outcome State Fault Refusal := litp 0x3C s
def execLitp3D (s : State) : Host.Outcome State Fault Refusal := litp 0x3D s
def execLitp3E (s : State) : Host.Outcome State Fault Refusal := litp 0x3E s
def execLitp3F (s : State) : Host.Outcome State Fault Refusal := litp 0x3F s
def execLitp40 (s : State) : Host.Outcome State Fault Refusal := litp 0x40 s
def execLitp41 (s : State) : Host.Outcome State Fault Refusal := litp 0x41 s
def execLitp42 (s : State) : Host.Outcome State Fault Refusal := litp 0x42 s
def execLitp43 (s : State) : Host.Outcome State Fault Refusal := litp 0x43 s
def execLitp44 (s : State) : Host.Outcome State Fault Refusal := litp 0x44 s
def execLitp45 (s : State) : Host.Outcome State Fault Refusal := litp 0x45 s
def execLitp46 (s : State) : Host.Outcome State Fault Refusal := litp 0x46 s
def execLitp47 (s : State) : Host.Outcome State Fault Refusal := litp 0x47 s
def execLitp48 (s : State) : Host.Outcome State Fault Refusal := litp 0x48 s
def execLitp49 (s : State) : Host.Outcome State Fault Refusal := litp 0x49 s
def execLitp4A (s : State) : Host.Outcome State Fault Refusal := litp 0x4A s
def execLitp4B (s : State) : Host.Outcome State Fault Refusal := litp 0x4B s
def execLitp4C (s : State) : Host.Outcome State Fault Refusal := litp 0x4C s
def execLitp4D (s : State) : Host.Outcome State Fault Refusal := litp 0x4D s
def execLitp4E (s : State) : Host.Outcome State Fault Refusal := litp 0x4E s
def execLitp4F (s : State) : Host.Outcome State Fault Refusal := litp 0x4F s
def execLitp50 (s : State) : Host.Outcome State Fault Refusal := litp 0x50 s
def execLitp51 (s : State) : Host.Outcome State Fault Refusal := litp 0x51 s
def execLitp52 (s : State) : Host.Outcome State Fault Refusal := litp 0x52 s
def execLitp53 (s : State) : Host.Outcome State Fault Refusal := litp 0x53 s
def execLitp54 (s : State) : Host.Outcome State Fault Refusal := litp 0x54 s
def execLitp55 (s : State) : Host.Outcome State Fault Refusal := litp 0x55 s
def execLitp56 (s : State) : Host.Outcome State Fault Refusal := litp 0x56 s
def execLitp57 (s : State) : Host.Outcome State Fault Refusal := litp 0x57 s
def execLitp58 (s : State) : Host.Outcome State Fault Refusal := litp 0x58 s
def execLitp59 (s : State) : Host.Outcome State Fault Refusal := litp 0x59 s
def execLitp5A (s : State) : Host.Outcome State Fault Refusal := litp 0x5A s
def execLitp5B (s : State) : Host.Outcome State Fault Refusal := litp 0x5B s
def execLitp5C (s : State) : Host.Outcome State Fault Refusal := litp 0x5C s
def execLitp5D (s : State) : Host.Outcome State Fault Refusal := litp 0x5D s
def execLitp5E (s : State) : Host.Outcome State Fault Refusal := litp 0x5E s
def execLitp5F (s : State) : Host.Outcome State Fault Refusal := litp 0x5F s
def execLitp60 (s : State) : Host.Outcome State Fault Refusal := litp 0x60 s
def execLitp61 (s : State) : Host.Outcome State Fault Refusal := litp 0x61 s
def execLitp62 (s : State) : Host.Outcome State Fault Refusal := litp 0x62 s
def execLitp63 (s : State) : Host.Outcome State Fault Refusal := litp 0x63 s
def execLitp64 (s : State) : Host.Outcome State Fault Refusal := litp 0x64 s
def execLitp65 (s : State) : Host.Outcome State Fault Refusal := litp 0x65 s
def execLitp66 (s : State) : Host.Outcome State Fault Refusal := litp 0x66 s
def execLitp67 (s : State) : Host.Outcome State Fault Refusal := litp 0x67 s
def execLitp68 (s : State) : Host.Outcome State Fault Refusal := litp 0x68 s
def execLitp69 (s : State) : Host.Outcome State Fault Refusal := litp 0x69 s
def execLitp6A (s : State) : Host.Outcome State Fault Refusal := litp 0x6A s
def execLitp6B (s : State) : Host.Outcome State Fault Refusal := litp 0x6B s
def execLitp6C (s : State) : Host.Outcome State Fault Refusal := litp 0x6C s
def execLitp6D (s : State) : Host.Outcome State Fault Refusal := litp 0x6D s
def execLitp6E (s : State) : Host.Outcome State Fault Refusal := litp 0x6E s
def execLitp6F (s : State) : Host.Outcome State Fault Refusal := litp 0x6F s
def execLitp70 (s : State) : Host.Outcome State Fault Refusal := litp 0x70 s
def execLitp71 (s : State) : Host.Outcome State Fault Refusal := litp 0x71 s
def execLitp72 (s : State) : Host.Outcome State Fault Refusal := litp 0x72 s
def execLitp73 (s : State) : Host.Outcome State Fault Refusal := litp 0x73 s
def execLitp74 (s : State) : Host.Outcome State Fault Refusal := litp 0x74 s
def execLitp75 (s : State) : Host.Outcome State Fault Refusal := litp 0x75 s
def execLitp76 (s : State) : Host.Outcome State Fault Refusal := litp 0x76 s
def execLitp77 (s : State) : Host.Outcome State Fault Refusal := litp 0x77 s
def execLitp78 (s : State) : Host.Outcome State Fault Refusal := litp 0x78 s
def execLitp79 (s : State) : Host.Outcome State Fault Refusal := litp 0x79 s
def execLitp7A (s : State) : Host.Outcome State Fault Refusal := litp 0x7A s
def execLitp7B (s : State) : Host.Outcome State Fault Refusal := litp 0x7B s
def execLitp7C (s : State) : Host.Outcome State Fault Refusal := litp 0x7C s
def execLitp7D (s : State) : Host.Outcome State Fault Refusal := litp 0x7D s
def execLitp7E (s : State) : Host.Outcome State Fault Refusal := litp 0x7E s
def execLitp7F (s : State) : Host.Outcome State Fault Refusal := litp 0x7F s
def execLitp80 (s : State) : Host.Outcome State Fault Refusal := litp 0x80 s
def execLitp81 (s : State) : Host.Outcome State Fault Refusal := litp 0x81 s
def execLitp82 (s : State) : Host.Outcome State Fault Refusal := litp 0x82 s
def execLitp83 (s : State) : Host.Outcome State Fault Refusal := litp 0x83 s
def execLitp84 (s : State) : Host.Outcome State Fault Refusal := litp 0x84 s
def execLitp85 (s : State) : Host.Outcome State Fault Refusal := litp 0x85 s
def execLitp86 (s : State) : Host.Outcome State Fault Refusal := litp 0x86 s
def execLitp87 (s : State) : Host.Outcome State Fault Refusal := litp 0x87 s
def execLitp88 (s : State) : Host.Outcome State Fault Refusal := litp 0x88 s
def execLitp89 (s : State) : Host.Outcome State Fault Refusal := litp 0x89 s
def execLitp8A (s : State) : Host.Outcome State Fault Refusal := litp 0x8A s
def execLitp8B (s : State) : Host.Outcome State Fault Refusal := litp 0x8B s
def execLitp8C (s : State) : Host.Outcome State Fault Refusal := litp 0x8C s
def execLitp8D (s : State) : Host.Outcome State Fault Refusal := litp 0x8D s
def execLitp8E (s : State) : Host.Outcome State Fault Refusal := litp 0x8E s
def execLitp8F (s : State) : Host.Outcome State Fault Refusal := litp 0x8F s
def execLitp90 (s : State) : Host.Outcome State Fault Refusal := litp 0x90 s
def execLitp91 (s : State) : Host.Outcome State Fault Refusal := litp 0x91 s
def execLitp92 (s : State) : Host.Outcome State Fault Refusal := litp 0x92 s
def execLitp93 (s : State) : Host.Outcome State Fault Refusal := litp 0x93 s
def execLitp94 (s : State) : Host.Outcome State Fault Refusal := litp 0x94 s
def execLitp95 (s : State) : Host.Outcome State Fault Refusal := litp 0x95 s
def execLitp96 (s : State) : Host.Outcome State Fault Refusal := litp 0x96 s
def execLitp97 (s : State) : Host.Outcome State Fault Refusal := litp 0x97 s
def execLitp98 (s : State) : Host.Outcome State Fault Refusal := litp 0x98 s
def execLitp99 (s : State) : Host.Outcome State Fault Refusal := litp 0x99 s
def execLitp9A (s : State) : Host.Outcome State Fault Refusal := litp 0x9A s
def execLitp9B (s : State) : Host.Outcome State Fault Refusal := litp 0x9B s
def execLitp9C (s : State) : Host.Outcome State Fault Refusal := litp 0x9C s
def execLitp9D (s : State) : Host.Outcome State Fault Refusal := litp 0x9D s
def execLitp9E (s : State) : Host.Outcome State Fault Refusal := litp 0x9E s
def execLitp9F (s : State) : Host.Outcome State Fault Refusal := litp 0x9F s
def execLitpA0 (s : State) : Host.Outcome State Fault Refusal := litp 0xA0 s
def execLitpA1 (s : State) : Host.Outcome State Fault Refusal := litp 0xA1 s
def execLitpA2 (s : State) : Host.Outcome State Fault Refusal := litp 0xA2 s
def execLitpA3 (s : State) : Host.Outcome State Fault Refusal := litp 0xA3 s
def execLitpA4 (s : State) : Host.Outcome State Fault Refusal := litp 0xA4 s
def execLitpA5 (s : State) : Host.Outcome State Fault Refusal := litp 0xA5 s
def execLitpA6 (s : State) : Host.Outcome State Fault Refusal := litp 0xA6 s
def execLitpA7 (s : State) : Host.Outcome State Fault Refusal := litp 0xA7 s
def execLitpA8 (s : State) : Host.Outcome State Fault Refusal := litp 0xA8 s
def execLitpA9 (s : State) : Host.Outcome State Fault Refusal := litp 0xA9 s
def execLitpAA (s : State) : Host.Outcome State Fault Refusal := litp 0xAA s
def execLitpAB (s : State) : Host.Outcome State Fault Refusal := litp 0xAB s
def execLitpAC (s : State) : Host.Outcome State Fault Refusal := litp 0xAC s
def execLitpAD (s : State) : Host.Outcome State Fault Refusal := litp 0xAD s
def execLitpAE (s : State) : Host.Outcome State Fault Refusal := litp 0xAE s
def execLitpAF (s : State) : Host.Outcome State Fault Refusal := litp 0xAF s
def execLitpB0 (s : State) : Host.Outcome State Fault Refusal := litp 0xB0 s
def execLitpB1 (s : State) : Host.Outcome State Fault Refusal := litp 0xB1 s
def execLitpB2 (s : State) : Host.Outcome State Fault Refusal := litp 0xB2 s
def execLitpB3 (s : State) : Host.Outcome State Fault Refusal := litp 0xB3 s
def execLitpB4 (s : State) : Host.Outcome State Fault Refusal := litp 0xB4 s
def execLitpB5 (s : State) : Host.Outcome State Fault Refusal := litp 0xB5 s
def execLitpB6 (s : State) : Host.Outcome State Fault Refusal := litp 0xB6 s
def execLitpB7 (s : State) : Host.Outcome State Fault Refusal := litp 0xB7 s
def execLitpB8 (s : State) : Host.Outcome State Fault Refusal := litp 0xB8 s
def execLitpB9 (s : State) : Host.Outcome State Fault Refusal := litp 0xB9 s
def execLitpBA (s : State) : Host.Outcome State Fault Refusal := litp 0xBA s
def execLitpBB (s : State) : Host.Outcome State Fault Refusal := litp 0xBB s
def execLitpBC (s : State) : Host.Outcome State Fault Refusal := litp 0xBC s
def execLitpBD (s : State) : Host.Outcome State Fault Refusal := litp 0xBD s
def execLitpBE (s : State) : Host.Outcome State Fault Refusal := litp 0xBE s
def execLitpBF (s : State) : Host.Outcome State Fault Refusal := litp 0xBF s
def execLitpC0 (s : State) : Host.Outcome State Fault Refusal := litp 0xC0 s
def execLitpC1 (s : State) : Host.Outcome State Fault Refusal := litp 0xC1 s
def execLitpC2 (s : State) : Host.Outcome State Fault Refusal := litp 0xC2 s
def execLitpC3 (s : State) : Host.Outcome State Fault Refusal := litp 0xC3 s
def execLitpC4 (s : State) : Host.Outcome State Fault Refusal := litp 0xC4 s
def execLitpC5 (s : State) : Host.Outcome State Fault Refusal := litp 0xC5 s
def execLitpC6 (s : State) : Host.Outcome State Fault Refusal := litp 0xC6 s
def execLitpC7 (s : State) : Host.Outcome State Fault Refusal := litp 0xC7 s
def execLitpC8 (s : State) : Host.Outcome State Fault Refusal := litp 0xC8 s
def execLitpC9 (s : State) : Host.Outcome State Fault Refusal := litp 0xC9 s
def execLitpCA (s : State) : Host.Outcome State Fault Refusal := litp 0xCA s
def execLitpCB (s : State) : Host.Outcome State Fault Refusal := litp 0xCB s
def execLitpCC (s : State) : Host.Outcome State Fault Refusal := litp 0xCC s
def execLitpCD (s : State) : Host.Outcome State Fault Refusal := litp 0xCD s
def execLitpCE (s : State) : Host.Outcome State Fault Refusal := litp 0xCE s
def execLitpCF (s : State) : Host.Outcome State Fault Refusal := litp 0xCF s
def execLitpD0 (s : State) : Host.Outcome State Fault Refusal := litp 0xD0 s
def execLitpD1 (s : State) : Host.Outcome State Fault Refusal := litp 0xD1 s
def execLitpD2 (s : State) : Host.Outcome State Fault Refusal := litp 0xD2 s
def execLitpD3 (s : State) : Host.Outcome State Fault Refusal := litp 0xD3 s
def execLitpD4 (s : State) : Host.Outcome State Fault Refusal := litp 0xD4 s
def execLitpD5 (s : State) : Host.Outcome State Fault Refusal := litp 0xD5 s
def execLitpD6 (s : State) : Host.Outcome State Fault Refusal := litp 0xD6 s
def execLitpD7 (s : State) : Host.Outcome State Fault Refusal := litp 0xD7 s
def execLitpD8 (s : State) : Host.Outcome State Fault Refusal := litp 0xD8 s
def execLitpD9 (s : State) : Host.Outcome State Fault Refusal := litp 0xD9 s
def execLitpDA (s : State) : Host.Outcome State Fault Refusal := litp 0xDA s
def execLitpDB (s : State) : Host.Outcome State Fault Refusal := litp 0xDB s
def execLitpDC (s : State) : Host.Outcome State Fault Refusal := litp 0xDC s
def execLitpDD (s : State) : Host.Outcome State Fault Refusal := litp 0xDD s
def execLitpDE (s : State) : Host.Outcome State Fault Refusal := litp 0xDE s
def execLitpDF (s : State) : Host.Outcome State Fault Refusal := litp 0xDF s
def execLitpE0 (s : State) : Host.Outcome State Fault Refusal := litp 0xE0 s
def execLitpE1 (s : State) : Host.Outcome State Fault Refusal := litp 0xE1 s
def execLitpE2 (s : State) : Host.Outcome State Fault Refusal := litp 0xE2 s
def execLitpE3 (s : State) : Host.Outcome State Fault Refusal := litp 0xE3 s
def execLitpE4 (s : State) : Host.Outcome State Fault Refusal := litp 0xE4 s
def execLitpE5 (s : State) : Host.Outcome State Fault Refusal := litp 0xE5 s
def execLitpE6 (s : State) : Host.Outcome State Fault Refusal := litp 0xE6 s
def execLitpE7 (s : State) : Host.Outcome State Fault Refusal := litp 0xE7 s
def execLitpE8 (s : State) : Host.Outcome State Fault Refusal := litp 0xE8 s
def execLitpE9 (s : State) : Host.Outcome State Fault Refusal := litp 0xE9 s
def execLitpEA (s : State) : Host.Outcome State Fault Refusal := litp 0xEA s
def execLitpEB (s : State) : Host.Outcome State Fault Refusal := litp 0xEB s
def execLitpEC (s : State) : Host.Outcome State Fault Refusal := litp 0xEC s
def execLitpED (s : State) : Host.Outcome State Fault Refusal := litp 0xED s
def execLitpEE (s : State) : Host.Outcome State Fault Refusal := litp 0xEE s
def execLitpEF (s : State) : Host.Outcome State Fault Refusal := litp 0xEF s
def execLitpF0 (s : State) : Host.Outcome State Fault Refusal := litp 0xF0 s
def execLitpF1 (s : State) : Host.Outcome State Fault Refusal := litp 0xF1 s
def execLitpF2 (s : State) : Host.Outcome State Fault Refusal := litp 0xF2 s
def execLitpF3 (s : State) : Host.Outcome State Fault Refusal := litp 0xF3 s
def execLitpF4 (s : State) : Host.Outcome State Fault Refusal := litp 0xF4 s
def execLitpF5 (s : State) : Host.Outcome State Fault Refusal := litp 0xF5 s
def execLitpF6 (s : State) : Host.Outcome State Fault Refusal := litp 0xF6 s
def execLitpF7 (s : State) : Host.Outcome State Fault Refusal := litp 0xF7 s
def execLitpF8 (s : State) : Host.Outcome State Fault Refusal := litp 0xF8 s
def execLitpF9 (s : State) : Host.Outcome State Fault Refusal := litp 0xF9 s
def execLitpFA (s : State) : Host.Outcome State Fault Refusal := litp 0xFA s
def execLitpFB (s : State) : Host.Outcome State Fault Refusal := litp 0xFB s
def execLitpFC (s : State) : Host.Outcome State Fault Refusal := litp 0xFC s
def execLitpFD (s : State) : Host.Outcome State Fault Refusal := litp 0xFD s
def execLitpFE (s : State) : Host.Outcome State Fault Refusal := litp 0xFE s
def execLitpFF (s : State) : Host.Outcome State Fault Refusal := litp 0xFF s

end Sys2Proof.Machine
end

