-- ==== Sys2Proof/Machine/Offset.lean ====
section
/-!
DEFINITION. The offset prefixes `OFFS.00` to `OFFS.3F` (43_tokens.md R105), one meaning per row: the field of a copy that
gives the 6 high bits of its distance. Executed alone, a row performs `offsetPrefix` when its scan answers the row's
index: `refill(14)`, then the code's bits are consumed. What follows it in a copy (low bits, bytes) is the copy's.
-/

namespace Sys2Proof.Machine

/-- `offsetPrefix()` of R105 as an instruction of its own. -/
def offs (j : Nat) (s : State) : Host.Outcome State Fault Refusal := Res.outcome (offsetPrefix j s)

def execOffs00 (s : State) : Host.Outcome State Fault Refusal := offs 0x00 s
def execOffs01 (s : State) : Host.Outcome State Fault Refusal := offs 0x01 s
def execOffs02 (s : State) : Host.Outcome State Fault Refusal := offs 0x02 s
def execOffs03 (s : State) : Host.Outcome State Fault Refusal := offs 0x03 s
def execOffs04 (s : State) : Host.Outcome State Fault Refusal := offs 0x04 s
def execOffs05 (s : State) : Host.Outcome State Fault Refusal := offs 0x05 s
def execOffs06 (s : State) : Host.Outcome State Fault Refusal := offs 0x06 s
def execOffs07 (s : State) : Host.Outcome State Fault Refusal := offs 0x07 s
def execOffs08 (s : State) : Host.Outcome State Fault Refusal := offs 0x08 s
def execOffs09 (s : State) : Host.Outcome State Fault Refusal := offs 0x09 s
def execOffs0A (s : State) : Host.Outcome State Fault Refusal := offs 0x0A s
def execOffs0B (s : State) : Host.Outcome State Fault Refusal := offs 0x0B s
def execOffs0C (s : State) : Host.Outcome State Fault Refusal := offs 0x0C s
def execOffs0D (s : State) : Host.Outcome State Fault Refusal := offs 0x0D s
def execOffs0E (s : State) : Host.Outcome State Fault Refusal := offs 0x0E s
def execOffs0F (s : State) : Host.Outcome State Fault Refusal := offs 0x0F s
def execOffs10 (s : State) : Host.Outcome State Fault Refusal := offs 0x10 s
def execOffs11 (s : State) : Host.Outcome State Fault Refusal := offs 0x11 s
def execOffs12 (s : State) : Host.Outcome State Fault Refusal := offs 0x12 s
def execOffs13 (s : State) : Host.Outcome State Fault Refusal := offs 0x13 s
def execOffs14 (s : State) : Host.Outcome State Fault Refusal := offs 0x14 s
def execOffs15 (s : State) : Host.Outcome State Fault Refusal := offs 0x15 s
def execOffs16 (s : State) : Host.Outcome State Fault Refusal := offs 0x16 s
def execOffs17 (s : State) : Host.Outcome State Fault Refusal := offs 0x17 s
def execOffs18 (s : State) : Host.Outcome State Fault Refusal := offs 0x18 s
def execOffs19 (s : State) : Host.Outcome State Fault Refusal := offs 0x19 s
def execOffs1A (s : State) : Host.Outcome State Fault Refusal := offs 0x1A s
def execOffs1B (s : State) : Host.Outcome State Fault Refusal := offs 0x1B s
def execOffs1C (s : State) : Host.Outcome State Fault Refusal := offs 0x1C s
def execOffs1D (s : State) : Host.Outcome State Fault Refusal := offs 0x1D s
def execOffs1E (s : State) : Host.Outcome State Fault Refusal := offs 0x1E s
def execOffs1F (s : State) : Host.Outcome State Fault Refusal := offs 0x1F s
def execOffs20 (s : State) : Host.Outcome State Fault Refusal := offs 0x20 s
def execOffs21 (s : State) : Host.Outcome State Fault Refusal := offs 0x21 s
def execOffs22 (s : State) : Host.Outcome State Fault Refusal := offs 0x22 s
def execOffs23 (s : State) : Host.Outcome State Fault Refusal := offs 0x23 s
def execOffs24 (s : State) : Host.Outcome State Fault Refusal := offs 0x24 s
def execOffs25 (s : State) : Host.Outcome State Fault Refusal := offs 0x25 s
def execOffs26 (s : State) : Host.Outcome State Fault Refusal := offs 0x26 s
def execOffs27 (s : State) : Host.Outcome State Fault Refusal := offs 0x27 s
def execOffs28 (s : State) : Host.Outcome State Fault Refusal := offs 0x28 s
def execOffs29 (s : State) : Host.Outcome State Fault Refusal := offs 0x29 s
def execOffs2A (s : State) : Host.Outcome State Fault Refusal := offs 0x2A s
def execOffs2B (s : State) : Host.Outcome State Fault Refusal := offs 0x2B s
def execOffs2C (s : State) : Host.Outcome State Fault Refusal := offs 0x2C s
def execOffs2D (s : State) : Host.Outcome State Fault Refusal := offs 0x2D s
def execOffs2E (s : State) : Host.Outcome State Fault Refusal := offs 0x2E s
def execOffs2F (s : State) : Host.Outcome State Fault Refusal := offs 0x2F s
def execOffs30 (s : State) : Host.Outcome State Fault Refusal := offs 0x30 s
def execOffs31 (s : State) : Host.Outcome State Fault Refusal := offs 0x31 s
def execOffs32 (s : State) : Host.Outcome State Fault Refusal := offs 0x32 s
def execOffs33 (s : State) : Host.Outcome State Fault Refusal := offs 0x33 s
def execOffs34 (s : State) : Host.Outcome State Fault Refusal := offs 0x34 s
def execOffs35 (s : State) : Host.Outcome State Fault Refusal := offs 0x35 s
def execOffs36 (s : State) : Host.Outcome State Fault Refusal := offs 0x36 s
def execOffs37 (s : State) : Host.Outcome State Fault Refusal := offs 0x37 s
def execOffs38 (s : State) : Host.Outcome State Fault Refusal := offs 0x38 s
def execOffs39 (s : State) : Host.Outcome State Fault Refusal := offs 0x39 s
def execOffs3A (s : State) : Host.Outcome State Fault Refusal := offs 0x3A s
def execOffs3B (s : State) : Host.Outcome State Fault Refusal := offs 0x3B s
def execOffs3C (s : State) : Host.Outcome State Fault Refusal := offs 0x3C s
def execOffs3D (s : State) : Host.Outcome State Fault Refusal := offs 0x3D s
def execOffs3E (s : State) : Host.Outcome State Fault Refusal := offs 0x3E s
def execOffs3F (s : State) : Host.Outcome State Fault Refusal := offs 0x3F s

end Sys2Proof.Machine
end

