-- ==== Sys2Proof/Machine/Dispatch.lean ====
section
/-!
DEFINITION. The dispatch of an instruction to its meaning: one arm per row of the opcode table.
-/

namespace Sys2Proof.Machine

def exec (i : Instr) (s : State) : Host.Outcome State Fault Refusal :=
  match i with
  | .lit8 byte => Sys2Proof.Machine.execLit8 byte s
  | .litp00 => Sys2Proof.Machine.execLitp00 s
  | .litp01 => Sys2Proof.Machine.execLitp01 s
  | .litp02 => Sys2Proof.Machine.execLitp02 s
  | .litp03 => Sys2Proof.Machine.execLitp03 s
  | .litp04 => Sys2Proof.Machine.execLitp04 s
  | .litp05 => Sys2Proof.Machine.execLitp05 s
  | .litp06 => Sys2Proof.Machine.execLitp06 s
  | .litp07 => Sys2Proof.Machine.execLitp07 s
  | .litp08 => Sys2Proof.Machine.execLitp08 s
  | .litp09 => Sys2Proof.Machine.execLitp09 s
  | .litp0A => Sys2Proof.Machine.execLitp0A s
  | .litp0B => Sys2Proof.Machine.execLitp0B s
  | .litp0C => Sys2Proof.Machine.execLitp0C s
  | .litp0D => Sys2Proof.Machine.execLitp0D s
  | .litp0E => Sys2Proof.Machine.execLitp0E s
  | .litp0F => Sys2Proof.Machine.execLitp0F s
  | .litp10 => Sys2Proof.Machine.execLitp10 s
  | .litp11 => Sys2Proof.Machine.execLitp11 s
  | .litp12 => Sys2Proof.Machine.execLitp12 s
  | .litp13 => Sys2Proof.Machine.execLitp13 s
  | .litp14 => Sys2Proof.Machine.execLitp14 s
  | .litp15 => Sys2Proof.Machine.execLitp15 s
  | .litp16 => Sys2Proof.Machine.execLitp16 s
  | .litp17 => Sys2Proof.Machine.execLitp17 s
  | .litp18 => Sys2Proof.Machine.execLitp18 s
  | .litp19 => Sys2Proof.Machine.execLitp19 s
  | .litp1A => Sys2Proof.Machine.execLitp1A s
  | .litp1B => Sys2Proof.Machine.execLitp1B s
  | .litp1C => Sys2Proof.Machine.execLitp1C s
  | .litp1D => Sys2Proof.Machine.execLitp1D s
  | .litp1E => Sys2Proof.Machine.execLitp1E s
  | .litp1F => Sys2Proof.Machine.execLitp1F s
  | .litp20 => Sys2Proof.Machine.execLitp20 s
  | .litp21 => Sys2Proof.Machine.execLitp21 s
  | .litp22 => Sys2Proof.Machine.execLitp22 s
  | .litp23 => Sys2Proof.Machine.execLitp23 s
  | .litp24 => Sys2Proof.Machine.execLitp24 s
  | .litp25 => Sys2Proof.Machine.execLitp25 s
  | .litp26 => Sys2Proof.Machine.execLitp26 s
  | .litp27 => Sys2Proof.Machine.execLitp27 s
  | .litp28 => Sys2Proof.Machine.execLitp28 s
  | .litp29 => Sys2Proof.Machine.execLitp29 s
  | .litp2A => Sys2Proof.Machine.execLitp2A s
  | .litp2B => Sys2Proof.Machine.execLitp2B s
  | .litp2C => Sys2Proof.Machine.execLitp2C s
  | .litp2D => Sys2Proof.Machine.execLitp2D s
  | .litp2E => Sys2Proof.Machine.execLitp2E s
  | .litp2F => Sys2Proof.Machine.execLitp2F s
  | .litp30 => Sys2Proof.Machine.execLitp30 s
  | .litp31 => Sys2Proof.Machine.execLitp31 s
  | .litp32 => Sys2Proof.Machine.execLitp32 s
  | .litp33 => Sys2Proof.Machine.execLitp33 s
  | .litp34 => Sys2Proof.Machine.execLitp34 s
  | .litp35 => Sys2Proof.Machine.execLitp35 s
  | .litp36 => Sys2Proof.Machine.execLitp36 s
  | .litp37 => Sys2Proof.Machine.execLitp37 s
  | .litp38 => Sys2Proof.Machine.execLitp38 s
  | .litp39 => Sys2Proof.Machine.execLitp39 s
  | .litp3A => Sys2Proof.Machine.execLitp3A s
  | .litp3B => Sys2Proof.Machine.execLitp3B s
  | .litp3C => Sys2Proof.Machine.execLitp3C s
  | .litp3D => Sys2Proof.Machine.execLitp3D s
  | .litp3E => Sys2Proof.Machine.execLitp3E s
  | .litp3F => Sys2Proof.Machine.execLitp3F s
  | .litp40 => Sys2Proof.Machine.execLitp40 s
  | .litp41 => Sys2Proof.Machine.execLitp41 s
  | .litp42 => Sys2Proof.Machine.execLitp42 s
  | .litp43 => Sys2Proof.Machine.execLitp43 s
  | .litp44 => Sys2Proof.Machine.execLitp44 s
  | .litp45 => Sys2Proof.Machine.execLitp45 s
  | .litp46 => Sys2Proof.Machine.execLitp46 s
  | .litp47 => Sys2Proof.Machine.execLitp47 s
  | .litp48 => Sys2Proof.Machine.execLitp48 s
  | .litp49 => Sys2Proof.Machine.execLitp49 s
  | .litp4A => Sys2Proof.Machine.execLitp4A s
  | .litp4B => Sys2Proof.Machine.execLitp4B s
  | .litp4C => Sys2Proof.Machine.execLitp4C s
  | .litp4D => Sys2Proof.Machine.execLitp4D s
  | .litp4E => Sys2Proof.Machine.execLitp4E s
  | .litp4F => Sys2Proof.Machine.execLitp4F s
  | .litp50 => Sys2Proof.Machine.execLitp50 s
  | .litp51 => Sys2Proof.Machine.execLitp51 s
  | .litp52 => Sys2Proof.Machine.execLitp52 s
  | .litp53 => Sys2Proof.Machine.execLitp53 s
  | .litp54 => Sys2Proof.Machine.execLitp54 s
  | .litp55 => Sys2Proof.Machine.execLitp55 s
  | .litp56 => Sys2Proof.Machine.execLitp56 s
  | .litp57 => Sys2Proof.Machine.execLitp57 s
  | .litp58 => Sys2Proof.Machine.execLitp58 s
  | .litp59 => Sys2Proof.Machine.execLitp59 s
  | .litp5A => Sys2Proof.Machine.execLitp5A s
  | .litp5B => Sys2Proof.Machine.execLitp5B s
  | .litp5C => Sys2Proof.Machine.execLitp5C s
  | .litp5D => Sys2Proof.Machine.execLitp5D s
  | .litp5E => Sys2Proof.Machine.execLitp5E s
  | .litp5F => Sys2Proof.Machine.execLitp5F s
  | .litp60 => Sys2Proof.Machine.execLitp60 s
  | .litp61 => Sys2Proof.Machine.execLitp61 s
  | .litp62 => Sys2Proof.Machine.execLitp62 s
  | .litp63 => Sys2Proof.Machine.execLitp63 s
  | .litp64 => Sys2Proof.Machine.execLitp64 s
  | .litp65 => Sys2Proof.Machine.execLitp65 s
  | .litp66 => Sys2Proof.Machine.execLitp66 s
  | .litp67 => Sys2Proof.Machine.execLitp67 s
  | .litp68 => Sys2Proof.Machine.execLitp68 s
  | .litp69 => Sys2Proof.Machine.execLitp69 s
  | .litp6A => Sys2Proof.Machine.execLitp6A s
  | .litp6B => Sys2Proof.Machine.execLitp6B s
  | .litp6C => Sys2Proof.Machine.execLitp6C s
  | .litp6D => Sys2Proof.Machine.execLitp6D s
  | .litp6E => Sys2Proof.Machine.execLitp6E s
  | .litp6F => Sys2Proof.Machine.execLitp6F s
  | .litp70 => Sys2Proof.Machine.execLitp70 s
  | .litp71 => Sys2Proof.Machine.execLitp71 s
  | .litp72 => Sys2Proof.Machine.execLitp72 s
  | .litp73 => Sys2Proof.Machine.execLitp73 s
  | .litp74 => Sys2Proof.Machine.execLitp74 s
  | .litp75 => Sys2Proof.Machine.execLitp75 s
  | .litp76 => Sys2Proof.Machine.execLitp76 s
  | .litp77 => Sys2Proof.Machine.execLitp77 s
  | .litp78 => Sys2Proof.Machine.execLitp78 s
  | .litp79 => Sys2Proof.Machine.execLitp79 s
  | .litp7A => Sys2Proof.Machine.execLitp7A s
  | .litp7B => Sys2Proof.Machine.execLitp7B s
  | .litp7C => Sys2Proof.Machine.execLitp7C s
  | .litp7D => Sys2Proof.Machine.execLitp7D s
  | .litp7E => Sys2Proof.Machine.execLitp7E s
  | .litp7F => Sys2Proof.Machine.execLitp7F s
  | .litp80 => Sys2Proof.Machine.execLitp80 s
  | .litp81 => Sys2Proof.Machine.execLitp81 s
  | .litp82 => Sys2Proof.Machine.execLitp82 s
  | .litp83 => Sys2Proof.Machine.execLitp83 s
  | .litp84 => Sys2Proof.Machine.execLitp84 s
  | .litp85 => Sys2Proof.Machine.execLitp85 s
  | .litp86 => Sys2Proof.Machine.execLitp86 s
  | .litp87 => Sys2Proof.Machine.execLitp87 s
  | .litp88 => Sys2Proof.Machine.execLitp88 s
  | .litp89 => Sys2Proof.Machine.execLitp89 s
  | .litp8A => Sys2Proof.Machine.execLitp8A s
  | .litp8B => Sys2Proof.Machine.execLitp8B s
  | .litp8C => Sys2Proof.Machine.execLitp8C s
  | .litp8D => Sys2Proof.Machine.execLitp8D s
  | .litp8E => Sys2Proof.Machine.execLitp8E s
  | .litp8F => Sys2Proof.Machine.execLitp8F s
  | .litp90 => Sys2Proof.Machine.execLitp90 s
  | .litp91 => Sys2Proof.Machine.execLitp91 s
  | .litp92 => Sys2Proof.Machine.execLitp92 s
  | .litp93 => Sys2Proof.Machine.execLitp93 s
  | .litp94 => Sys2Proof.Machine.execLitp94 s
  | .litp95 => Sys2Proof.Machine.execLitp95 s
  | .litp96 => Sys2Proof.Machine.execLitp96 s
  | .litp97 => Sys2Proof.Machine.execLitp97 s
  | .litp98 => Sys2Proof.Machine.execLitp98 s
  | .litp99 => Sys2Proof.Machine.execLitp99 s
  | .litp9A => Sys2Proof.Machine.execLitp9A s
  | .litp9B => Sys2Proof.Machine.execLitp9B s
  | .litp9C => Sys2Proof.Machine.execLitp9C s
  | .litp9D => Sys2Proof.Machine.execLitp9D s
  | .litp9E => Sys2Proof.Machine.execLitp9E s
  | .litp9F => Sys2Proof.Machine.execLitp9F s
  | .litpA0 => Sys2Proof.Machine.execLitpA0 s
  | .litpA1 => Sys2Proof.Machine.execLitpA1 s
  | .litpA2 => Sys2Proof.Machine.execLitpA2 s
  | .litpA3 => Sys2Proof.Machine.execLitpA3 s
  | .litpA4 => Sys2Proof.Machine.execLitpA4 s
  | .litpA5 => Sys2Proof.Machine.execLitpA5 s
  | .litpA6 => Sys2Proof.Machine.execLitpA6 s
  | .litpA7 => Sys2Proof.Machine.execLitpA7 s
  | .litpA8 => Sys2Proof.Machine.execLitpA8 s
  | .litpA9 => Sys2Proof.Machine.execLitpA9 s
  | .litpAA => Sys2Proof.Machine.execLitpAA s
  | .litpAB => Sys2Proof.Machine.execLitpAB s
  | .litpAC => Sys2Proof.Machine.execLitpAC s
  | .litpAD => Sys2Proof.Machine.execLitpAD s
  | .litpAE => Sys2Proof.Machine.execLitpAE s
  | .litpAF => Sys2Proof.Machine.execLitpAF s
  | .litpB0 => Sys2Proof.Machine.execLitpB0 s
  | .litpB1 => Sys2Proof.Machine.execLitpB1 s
  | .litpB2 => Sys2Proof.Machine.execLitpB2 s
  | .litpB3 => Sys2Proof.Machine.execLitpB3 s
  | .litpB4 => Sys2Proof.Machine.execLitpB4 s
  | .litpB5 => Sys2Proof.Machine.execLitpB5 s
  | .litpB6 => Sys2Proof.Machine.execLitpB6 s
  | .litpB7 => Sys2Proof.Machine.execLitpB7 s
  | .litpB8 => Sys2Proof.Machine.execLitpB8 s
  | .litpB9 => Sys2Proof.Machine.execLitpB9 s
  | .litpBA => Sys2Proof.Machine.execLitpBA s
  | .litpBB => Sys2Proof.Machine.execLitpBB s
  | .litpBC => Sys2Proof.Machine.execLitpBC s
  | .litpBD => Sys2Proof.Machine.execLitpBD s
  | .litpBE => Sys2Proof.Machine.execLitpBE s
  | .litpBF => Sys2Proof.Machine.execLitpBF s
  | .litpC0 => Sys2Proof.Machine.execLitpC0 s
  | .litpC1 => Sys2Proof.Machine.execLitpC1 s
  | .litpC2 => Sys2Proof.Machine.execLitpC2 s
  | .litpC3 => Sys2Proof.Machine.execLitpC3 s
  | .litpC4 => Sys2Proof.Machine.execLitpC4 s
  | .litpC5 => Sys2Proof.Machine.execLitpC5 s
  | .litpC6 => Sys2Proof.Machine.execLitpC6 s
  | .litpC7 => Sys2Proof.Machine.execLitpC7 s
  | .litpC8 => Sys2Proof.Machine.execLitpC8 s
  | .litpC9 => Sys2Proof.Machine.execLitpC9 s
  | .litpCA => Sys2Proof.Machine.execLitpCA s
  | .litpCB => Sys2Proof.Machine.execLitpCB s
  | .litpCC => Sys2Proof.Machine.execLitpCC s
  | .litpCD => Sys2Proof.Machine.execLitpCD s
  | .litpCE => Sys2Proof.Machine.execLitpCE s
  | .litpCF => Sys2Proof.Machine.execLitpCF s
  | .litpD0 => Sys2Proof.Machine.execLitpD0 s
  | .litpD1 => Sys2Proof.Machine.execLitpD1 s
  | .litpD2 => Sys2Proof.Machine.execLitpD2 s
  | .litpD3 => Sys2Proof.Machine.execLitpD3 s
  | .litpD4 => Sys2Proof.Machine.execLitpD4 s
  | .litpD5 => Sys2Proof.Machine.execLitpD5 s
  | .litpD6 => Sys2Proof.Machine.execLitpD6 s
  | .litpD7 => Sys2Proof.Machine.execLitpD7 s
  | .litpD8 => Sys2Proof.Machine.execLitpD8 s
  | .litpD9 => Sys2Proof.Machine.execLitpD9 s
  | .litpDA => Sys2Proof.Machine.execLitpDA s
  | .litpDB => Sys2Proof.Machine.execLitpDB s
  | .litpDC => Sys2Proof.Machine.execLitpDC s
  | .litpDD => Sys2Proof.Machine.execLitpDD s
  | .litpDE => Sys2Proof.Machine.execLitpDE s
  | .litpDF => Sys2Proof.Machine.execLitpDF s
  | .litpE0 => Sys2Proof.Machine.execLitpE0 s
  | .litpE1 => Sys2Proof.Machine.execLitpE1 s
  | .litpE2 => Sys2Proof.Machine.execLitpE2 s
  | .litpE3 => Sys2Proof.Machine.execLitpE3 s
  | .litpE4 => Sys2Proof.Machine.execLitpE4 s
  | .litpE5 => Sys2Proof.Machine.execLitpE5 s
  | .litpE6 => Sys2Proof.Machine.execLitpE6 s
  | .litpE7 => Sys2Proof.Machine.execLitpE7 s
  | .litpE8 => Sys2Proof.Machine.execLitpE8 s
  | .litpE9 => Sys2Proof.Machine.execLitpE9 s
  | .litpEA => Sys2Proof.Machine.execLitpEA s
  | .litpEB => Sys2Proof.Machine.execLitpEB s
  | .litpEC => Sys2Proof.Machine.execLitpEC s
  | .litpED => Sys2Proof.Machine.execLitpED s
  | .litpEE => Sys2Proof.Machine.execLitpEE s
  | .litpEF => Sys2Proof.Machine.execLitpEF s
  | .litpF0 => Sys2Proof.Machine.execLitpF0 s
  | .litpF1 => Sys2Proof.Machine.execLitpF1 s
  | .litpF2 => Sys2Proof.Machine.execLitpF2 s
  | .litpF3 => Sys2Proof.Machine.execLitpF3 s
  | .litpF4 => Sys2Proof.Machine.execLitpF4 s
  | .litpF5 => Sys2Proof.Machine.execLitpF5 s
  | .litpF6 => Sys2Proof.Machine.execLitpF6 s
  | .litpF7 => Sys2Proof.Machine.execLitpF7 s
  | .litpF8 => Sys2Proof.Machine.execLitpF8 s
  | .litpF9 => Sys2Proof.Machine.execLitpF9 s
  | .litpFA => Sys2Proof.Machine.execLitpFA s
  | .litpFB => Sys2Proof.Machine.execLitpFB s
  | .litpFC => Sys2Proof.Machine.execLitpFC s
  | .litpFD => Sys2Proof.Machine.execLitpFD s
  | .litpFE => Sys2Proof.Machine.execLitpFE s
  | .litpFF => Sys2Proof.Machine.execLitpFF s
  | .copy2 j low => Sys2Proof.Machine.execCopy2 j low s
  | .copyL1 j low => Sys2Proof.Machine.execCopyL1 j low s
  | .copyL2 j low => Sys2Proof.Machine.execCopyL2 j low s
  | .copyL3 j low => Sys2Proof.Machine.execCopyL3 j low s
  | .copyL4 j low => Sys2Proof.Machine.execCopyL4 j low s
  | .copyL5 j low => Sys2Proof.Machine.execCopyL5 j low s
  | .copyL6 j low => Sys2Proof.Machine.execCopyL6 j low s
  | .copyL7 j low => Sys2Proof.Machine.execCopyL7 j low s
  | .copyL8 extra j low => Sys2Proof.Machine.execCopyL8 extra j low s
  | .copyL9 extra j low => Sys2Proof.Machine.execCopyL9 extra j low s
  | .copyL10 extra j low => Sys2Proof.Machine.execCopyL10 extra j low s
  | .copyL11 extra j low => Sys2Proof.Machine.execCopyL11 extra j low s
  | .copyL12 extra j low => Sys2Proof.Machine.execCopyL12 extra j low s
  | .copyL13 extra j low => Sys2Proof.Machine.execCopyL13 extra j low s
  | .copyL14 extra j low => Sys2Proof.Machine.execCopyL14 extra j low s
  | .copyL15 extra j low => Sys2Proof.Machine.execCopyL15 extra j low s
  | .endOfStream => Sys2Proof.Machine.execEnd s
  | .offs00 => Sys2Proof.Machine.execOffs00 s
  | .offs01 => Sys2Proof.Machine.execOffs01 s
  | .offs02 => Sys2Proof.Machine.execOffs02 s
  | .offs03 => Sys2Proof.Machine.execOffs03 s
  | .offs04 => Sys2Proof.Machine.execOffs04 s
  | .offs05 => Sys2Proof.Machine.execOffs05 s
  | .offs06 => Sys2Proof.Machine.execOffs06 s
  | .offs07 => Sys2Proof.Machine.execOffs07 s
  | .offs08 => Sys2Proof.Machine.execOffs08 s
  | .offs09 => Sys2Proof.Machine.execOffs09 s
  | .offs0A => Sys2Proof.Machine.execOffs0A s
  | .offs0B => Sys2Proof.Machine.execOffs0B s
  | .offs0C => Sys2Proof.Machine.execOffs0C s
  | .offs0D => Sys2Proof.Machine.execOffs0D s
  | .offs0E => Sys2Proof.Machine.execOffs0E s
  | .offs0F => Sys2Proof.Machine.execOffs0F s
  | .offs10 => Sys2Proof.Machine.execOffs10 s
  | .offs11 => Sys2Proof.Machine.execOffs11 s
  | .offs12 => Sys2Proof.Machine.execOffs12 s
  | .offs13 => Sys2Proof.Machine.execOffs13 s
  | .offs14 => Sys2Proof.Machine.execOffs14 s
  | .offs15 => Sys2Proof.Machine.execOffs15 s
  | .offs16 => Sys2Proof.Machine.execOffs16 s
  | .offs17 => Sys2Proof.Machine.execOffs17 s
  | .offs18 => Sys2Proof.Machine.execOffs18 s
  | .offs19 => Sys2Proof.Machine.execOffs19 s
  | .offs1A => Sys2Proof.Machine.execOffs1A s
  | .offs1B => Sys2Proof.Machine.execOffs1B s
  | .offs1C => Sys2Proof.Machine.execOffs1C s
  | .offs1D => Sys2Proof.Machine.execOffs1D s
  | .offs1E => Sys2Proof.Machine.execOffs1E s
  | .offs1F => Sys2Proof.Machine.execOffs1F s
  | .offs20 => Sys2Proof.Machine.execOffs20 s
  | .offs21 => Sys2Proof.Machine.execOffs21 s
  | .offs22 => Sys2Proof.Machine.execOffs22 s
  | .offs23 => Sys2Proof.Machine.execOffs23 s
  | .offs24 => Sys2Proof.Machine.execOffs24 s
  | .offs25 => Sys2Proof.Machine.execOffs25 s
  | .offs26 => Sys2Proof.Machine.execOffs26 s
  | .offs27 => Sys2Proof.Machine.execOffs27 s
  | .offs28 => Sys2Proof.Machine.execOffs28 s
  | .offs29 => Sys2Proof.Machine.execOffs29 s
  | .offs2A => Sys2Proof.Machine.execOffs2A s
  | .offs2B => Sys2Proof.Machine.execOffs2B s
  | .offs2C => Sys2Proof.Machine.execOffs2C s
  | .offs2D => Sys2Proof.Machine.execOffs2D s
  | .offs2E => Sys2Proof.Machine.execOffs2E s
  | .offs2F => Sys2Proof.Machine.execOffs2F s
  | .offs30 => Sys2Proof.Machine.execOffs30 s
  | .offs31 => Sys2Proof.Machine.execOffs31 s
  | .offs32 => Sys2Proof.Machine.execOffs32 s
  | .offs33 => Sys2Proof.Machine.execOffs33 s
  | .offs34 => Sys2Proof.Machine.execOffs34 s
  | .offs35 => Sys2Proof.Machine.execOffs35 s
  | .offs36 => Sys2Proof.Machine.execOffs36 s
  | .offs37 => Sys2Proof.Machine.execOffs37 s
  | .offs38 => Sys2Proof.Machine.execOffs38 s
  | .offs39 => Sys2Proof.Machine.execOffs39 s
  | .offs3A => Sys2Proof.Machine.execOffs3A s
  | .offs3B => Sys2Proof.Machine.execOffs3B s
  | .offs3C => Sys2Proof.Machine.execOffs3C s
  | .offs3D => Sys2Proof.Machine.execOffs3D s
  | .offs3E => Sys2Proof.Machine.execOffs3E s
  | .offs3F => Sys2Proof.Machine.execOffs3F s

end Sys2Proof.Machine
end

