-- ==== Sys2Proof/Machine/Launch.lean ====
section
/-!
DEFINITION. The host's side: launch, the architectural reset (44_fsm.md R121 to R124), the other host moves, and reading
the result (44_fsm.md R132, R133).
-/

namespace Sys2Proof.Machine

/-- The launch parameters take their new values (10_state.md R22). -/
def State.withParams (inputBase inputLen outputLen : Nat) (s : State) : State :=
  { s with inputBase := inputBase, inputLen := inputLen, outputLen := outputLen }

/-- The state after a launch that fails with `e` (44_fsm.md R122, R123): registers cleared, `inputPos` at `inputBase`;
`literalModeFlag` and `dictSizeCode` "unspecified", free values (log 5). -/
def State.launchFailed (e : ErrKind) (s : State) : State :=
  { s with
    err := e
    fsm := .failed
    bitAccumulator := 0
    bitCount := 0
    outputPos := 0
    dictWritePos := 0
    dictFilledSize := 0
    inputPos := s.inputBase
    literalModeFlag := Config.freeLiteralModeFlag s.freeIndex
    dictSizeCode := Config.freeDictSizeCode s.freeIndex
    freeIndex := s.freeIndex + 1
    pendingLength := none }

/-- The state after a launch that passes its checks, with header bytes `f` and `c` (44_fsm.md R124). `DICT` and `OUT` are
not cleared. -/
def State.launched (f c : Byte) (s : State) : State :=
  { s with
    literalModeFlag := f.setWidth 1
    dictSizeCode := c.setWidth 3
    inputPos := s.inputBase + 2
    bitAccumulator := 0
    bitCount := 0
    outputPos := 0
    dictWritePos := 0
    dictFilledSize := 0
    err := .none
    fsm := .readToken
    pendingLength := none }

/-- The bytes that exist from `inputBase` on (44_fsm.md R122; none where `inputBase > inputLen`, U12). -/
def avail (inputBase inputLen : Nat) : Nat := if inputBase ≤ inputLen then inputLen - inputBase else 0

/-- The header check (44_fsm.md R123). -/
def headerLegal (f c : Byte) : Bool := f.toNat ≤ 1 && 4 ≤ c.toNat && c.toNat ≤ 6

/-- The checks and the initialisation of a launch whose parameters are in place (44_fsm.md R122, R123, R124, in this order). -/
def launchChecks (s : State) : Host.Outcome State Fault Refusal :=
  if avail s.inputBase s.inputLen < Config.minInput then .next (s.launchFailed .incompleteInput)
  else
    Res.outcome (do
      let f ← readIn s.inputBase s
      let c ← readIn (s.inputBase + 1) s
      if headerLegal f c then .ok (s.launched f c) else .ok (s.launchFailed .badData))

/-- `launch(inputBase, inputLen, outputLen)`; no such move exists while a decode runs (44_fsm.md R121). -/
def launch (inputBase inputLen outputLen : Nat) (s : State) : Host.Outcome State Fault Refusal :=
  if s.fsm = .readToken then .refused .launchWhileRunning
  else launchChecks (s.withParams inputBase inputLen outputLen)

/-- The host's next move, taken while no decode runs (44_fsm.md R132); without one, no step exists (R129). -/
def hostStep (s : State) : Host.Outcome State Fault Refusal :=
  match s.hostMoves with
  | [] => .refused .noStep
  | .fillIn base bytes :: rest => .next { s with input := s.input.writeBytes base bytes, hostMoves := rest }
  | .fillOut base bytes :: rest => .next { s with out := s.out.writeBytes base bytes, hostMoves := rest }
  | .launch inputBase inputLen outputLen :: rest => launch inputBase inputLen outputLen { s with hostMoves := rest }

/-- `OUT[0 .. n-1]` as the host reads it. -/
def readOut (n : Nat) (s : State) : List (Option Byte) := (List.range n).map s.out.read

/-- What the host may read in a terminal state, and only there: `fsm`, `err`, `outputPos`, `OUT[0 .. outputPos-1]`
(44_fsm.md R132, R133). After `Failed` the bytes are not to be trusted (60_exceptions.md R156). -/
def readResult (s : State) : Option (Fsm × ErrKind × Nat × List (Option Byte)) :=
  if s.fsm = .done ∨ s.fsm = .failed then some (s.fsm, s.err, s.outputPos, readOut s.outputPos s) else none

end Sys2Proof.Machine
end

