-- ==== Sys2Proof/Machine/Fetch.lean ====
section
/-!
DEFINITION. Reading one token and running it (43_tokens.md R100, 44_fsm.md R125), and placing a word where the next step
reads it.
-/

namespace Sys2Proof.Machine

/-- The context a token is read in (30_encoding.md R62). -/
def State.ctx (s : State) : Ctx := ⟨s.literalModeFlag, s.dictSizeCode, false⟩

/-- The context an offset prefix is read in (30_encoding.md R64). -/
def State.offsetCtx (s : State) : Ctx := ⟨s.literalModeFlag, s.dictSizeCode, true⟩

/-- A scan that matched no entry: `BadData`, with what the token had consumed by then (31_rom_tables.md R71, 43_tokens.md
R100 to R105, D8). Unreachable with this ROM (R75 (b)). -/
def rejectToken (e : DecodeError) (s : State) : Host.Outcome State Fault Refusal :=
  Res.outcome (
    match e with
    | .noLiteralCode | .noLengthCode => do
      let s ← consume 1 s
      raise .badData s
    | .noOffsetCode consumed => do
      let s ← consume consumed s
      let s ← refill Config.offsetLookahead s
      raise .badData s
    | .noTableRow => .error (.refused .noTableRow))

/-- `decodeToken()`: `refill(16)`, then the instruction the bits spell is run (43_tokens.md R100). -/
def decodeToken (s : State) : Host.Outcome State Fault Refusal :=
  match refill Config.tokenLookahead s with
  | .error o => o
  | .ok s =>
    match decode s.ctx s.window with
    | .ok i => exec i s
    | .error e => rejectToken e s

/-- The offset index an offset row stands for. -/
def offsetIndex (i : Instr) : Nat :=
  match i.shape with
  | .offs j => j.toNat
  | _ => 0

/-- What is left of a copy of `length` once its offset prefix `j` is consumed: the low bits are read from the stream, the
bytes are copied, the token is over. -/
def finishCopy (length j : Nat) (s : State) : Host.Outcome State Fault Refusal :=
  Res.outcome (do
    let low ← peek (lowWidth s.dictSizeCode.toNat length) s
    let s ← copyBody length j low s
    .ok { s with pendingLength := none })

/-- The rest of a copy whose length part has been consumed: the offset row the bits spell is run, then the copy is
finished (43_tokens.md R105 to R107). No run of the spec stands here between two steps (D4; log 9). -/
def resumeCopy (length : Nat) (s : State) : Host.Outcome State Fault Refusal :=
  match decode s.offsetCtx s.window with
  | .error e => rejectToken e s
  | .ok i =>
    match exec i s with
    | .next t => if t.fsm = .readToken then finishCopy length (offsetIndex i) t else .next t
    | o => o

/-- One step of the decode loop, with `fsm = ReadToken` (44_fsm.md R125): a full output ends the run before any bit is
fetched (R126). -/
def tokenStep (s : State) : Host.Outcome State Fault Refusal :=
  match s.pendingLength with
  | some length => resumeCopy length s
  | none => if s.outputFull then .next s.finished else decodeToken s

/-- `s` as a launch of the one-instruction program `w` would leave it (log 11): `IN` holds a legal header at 0 and the word
from byte 2 on, nothing is fetched yet, there is room for a byte of output. The header's literal mode is that of the
context the word is read in; for an offset prefix, the length part of the shortest copy counts as consumed. -/
def placeWord (nbits w : Nat) (s : State) : State :=
  let c := tableContext nbits w
  let size : BitVec 3 := if 4 ≤ s.dictSizeCode.toNat && s.dictSizeCode.toNat ≤ 6 then s.dictSizeCode else 4
  let image := c.literalModeFlag.setWidth 8 :: size.setWidth 8 :: wordBytes nbits w
  { s with
    fsm := .readToken
    err := .none
    literalModeFlag := c.literalModeFlag
    dictSizeCode := size
    input := s.input.writeBytes 0 image
    inputBase := 0
    inputLen := image.length
    inputPos := 2
    bitAccumulator := 0
    bitCount := 0
    outputLen := max s.outputLen (s.outputPos + 1)
    pendingLength := if c.atOffset then some 2 else none }

end Sys2Proof.Machine
end

