-- ==== Sys2Proof/Machine/Step.lean ====
section
/-!
DEFINITION. One step of the machine (44_fsm.md R125, R129, R132).
-/

namespace Sys2Proof.Machine

/-- While a decode runs, one token or one terminal transition; otherwise the host's next move. -/
def step (s : State) : Host.Outcome State Fault Refusal :=
  if s.fsm = .readToken then tokenStep s else hostStep s

/-- `s` with an opcode-table word placed where `step` reads its next instruction (log 11). -/
def State.withFetchWord (s : State) (nbits w : Nat) : State := placeWord nbits w s

end Sys2Proof.Machine
end

