-- ==== Sys2Proof/Laws/Memory.lean ====
section
/-!
SUPPORT. Memory: read after write, and the canonical form, which every memory operation keeps.
-/

namespace Sys2Proof.Machine

@[simp] theorem Memory.read_write_same (m : Memory) (a : Nat) (b : Byte) : (m.write a b).read a = some b := by
  induction m with
  | nil => simp [Memory.write, Memory.read]
  | cons c rest ih =>
    obtain ⟨x, v⟩ := c
    simp only [Memory.write]
    split
    · simp [Memory.read]
    · split
      · simp [Memory.read]
      · rename_i h
        simp [Memory.read, Ne.symm h, ih]

theorem Memory.read_write_other (m : Memory) {a x : Nat} (b : Byte) (h : x ≠ a) : (m.write a b).read x = m.read x := by
  induction m with
  | nil => simp [Memory.write, Memory.read, Ne.symm h]
  | cons c rest ih =>
    obtain ⟨y, v⟩ := c
    simp only [Memory.write]
    split
    · simp [Memory.read, Ne.symm h]
    · split
      · rename_i e
        subst e
        simp [Memory.read, Ne.symm h]
      · simp [Memory.read, ih]

/-- The addresses a write leaves in a memory are the old ones and the written one. -/
theorem Memory.mem_write {m : Memory} {a : Nat} {b : Byte} {c : Host.Cell} (h : c ∈ m.write a b) :
    c.1 = a ∨ c ∈ m := by
  induction m with
  | nil => simp_all [Memory.write]
  | cons d rest ih =>
    obtain ⟨y, v⟩ := d
    simp only [Memory.write] at h
    split at h
    · simp_all only [List.mem_cons]
      rcases h with rfl | h | h <;> simp_all
    · split at h
      · simp_all only [List.mem_cons]
        rcases h with rfl | h <;> simp_all
      · simp_all only [List.mem_cons]
        rcases h with h | h
        · simp_all
        · rcases ih h with h | h <;> simp_all

theorem Memory.wf_write {m : Memory} (hm : m.wf) (a : Nat) (b : Byte) : (m.write a b).wf := by
  induction m with
  | nil => simp [Memory.wf, Memory.write]
  | cons d rest ih =>
    obtain ⟨y, v⟩ := d
    obtain ⟨hd, hr⟩ := List.pairwise_cons.mp hm
    simp only [Memory.write]
    split
    · rename_i hlt
      refine List.pairwise_cons.mpr ⟨fun c hc => ?_, hm⟩
      rcases List.mem_cons.mp hc with rfl | hc
      · exact hlt
      · exact Nat.lt_trans hlt (hd c hc)
    · split
      · rename_i e
        subst e
        exact List.pairwise_cons.mpr ⟨hd, hr⟩
      · refine List.pairwise_cons.mpr ⟨fun c hc => ?_, ih hr⟩
        rcases Memory.mem_write hc with h | h
        · simp only [h]; omega
        · exact hd c h

theorem Memory.wf_writeBytes {m : Memory} (hm : m.wf) (a : Nat) (bytes : List Byte) : (m.writeBytes a bytes).wf := by
  induction bytes generalizing m a with
  | nil => exact hm
  | cons b rest ih => exact ih (Memory.wf_write hm a b) (a + 1)

theorem Memory.read_writeBytes_outside (m : Memory) (a x : Nat) (bytes : List Byte)
    (h : x < a ∨ a + bytes.length ≤ x) : (m.writeBytes a bytes).read x = m.read x := by
  induction bytes generalizing m a with
  | nil => rfl
  | cons b rest ih =>
    simp only [List.length_cons] at h
    rw [Memory.writeBytes, ih _ _ (by omega), Memory.read_write_other _ _ (by omega)]

theorem Memory.read_writeBytes_inside (m : Memory) (a k : Nat) (bytes : List Byte) (h : k < bytes.length) :
    (m.writeBytes a bytes).read (a + k) = some bytes[k] := by
  induction bytes generalizing m a k with
  | nil => simp at h
  | cons b rest ih =>
    rw [Memory.writeBytes]
    cases k with
    | zero =>
      rw [Memory.read_writeBytes_outside _ _ _ _ (by omega)]
      simp
    | succ k =>
      have := ih (m.write a b) (a + 1) k (by simpa using h)
      rw [show a + (k + 1) = a + 1 + k by omega, this]
      simp

/-- In canonical form an address below every cell's is not listed. -/
theorem Memory.read_none_of_lt {m : Memory} {a : Nat} (h : ∀ c ∈ m, a < c.1) : m.read a = none := by
  induction m with
  | nil => rfl
  | cons d rest ih =>
    obtain ⟨y, v⟩ := d
    have hy : a < y := h (y, v) (by simp)
    rw [Memory.read, if_neg (by omega)]
    exact ih fun c hc => h c (by simp [hc])

/-- Equal memories are equal data: canonical memories that read alike are the same list. -/
theorem Memory.ext_of_wf {m n : Memory} (hm : m.wf) (hn : n.wf) (h : ∀ a, m.read a = n.read a) : m = n := by
  induction m generalizing n with
  | nil =>
    cases n with
    | nil => rfl
    | cons d _ => have := h d.1; simp [Memory.read] at this
  | cons c rest ih =>
    obtain ⟨x, b⟩ := c
    obtain ⟨hx, hr⟩ := List.pairwise_cons.mp hm
    cases n with
    | nil => have := h x; simp [Memory.read] at this
    | cons d rest' =>
      obtain ⟨y, v⟩ := d
      obtain ⟨hy, hr'⟩ := List.pairwise_cons.mp hn
      have hxy : x = y := by
        rcases Nat.lt_trichotomy x y with hlt | heq | hgt
        · have h0 := h x
          rw [Memory.read_none_of_lt (m := (y, v) :: rest') (by
            intro c hc
            rcases List.mem_cons.mp hc with rfl | hc
            · exact hlt
            · exact Nat.lt_trans hlt (hy c hc))] at h0
          simp [Memory.read] at h0
        · exact heq
        · have h0 := h y
          rw [Memory.read_none_of_lt (m := (x, b) :: rest) (by
            intro c hc
            rcases List.mem_cons.mp hc with rfl | hc
            · exact hgt
            · exact Nat.lt_trans hgt (hx c hc))] at h0
          simp [Memory.read] at h0
      subst hxy
      have hbv : b = v := by have := h x; simpa [Memory.read] using this
      subst hbv
      rw [ih hr hr' fun a => ?_]
      rcases Nat.lt_or_ge x a with hlt | hge
      · have := h a
        simpa [Memory.read, show x ≠ a by omega] using this
      · rw [Memory.read_none_of_lt fun c hc => Nat.lt_of_le_of_lt hge (hx c hc),
          Memory.read_none_of_lt fun c hc => Nat.lt_of_le_of_lt hge (hy c hc)]

end Sys2Proof.Machine
end

