-- ==== Sys2Proof/Laws/State.lean ====
section
/-!
SUPPORT. One lemma per field per update of the state, so that no later proof unfolds a record update.
-/

namespace Sys2Proof.Machine

variable (s : State)

@[simp] theorem State.raised_bitAccumulator (e : ErrKind) : (s.raised e).bitAccumulator = s.bitAccumulator := rfl
@[simp] theorem State.raised_bitCount (e : ErrKind) : (s.raised e).bitCount = s.bitCount := rfl
@[simp] theorem State.raised_inputPos (e : ErrKind) : (s.raised e).inputPos = s.inputPos := rfl
@[simp] theorem State.raised_outputPos (e : ErrKind) : (s.raised e).outputPos = s.outputPos := rfl
@[simp] theorem State.raised_dictWritePos (e : ErrKind) : (s.raised e).dictWritePos = s.dictWritePos := rfl
@[simp] theorem State.raised_dictFilledSize (e : ErrKind) : (s.raised e).dictFilledSize = s.dictFilledSize := rfl
@[simp] theorem State.raised_literalModeFlag (e : ErrKind) : (s.raised e).literalModeFlag = s.literalModeFlag := rfl
@[simp] theorem State.raised_dictSizeCode (e : ErrKind) : (s.raised e).dictSizeCode = s.dictSizeCode := rfl
@[simp] theorem State.raised_fsm (e : ErrKind) : (s.raised e).fsm = .failed := rfl
@[simp] theorem State.raised_err (e : ErrKind) : (s.raised e).err = e := rfl
@[simp] theorem State.raised_dict (e : ErrKind) : (s.raised e).dict = s.dict := rfl
@[simp] theorem State.raised_out (e : ErrKind) : (s.raised e).out = s.out := rfl
@[simp] theorem State.raised_input (e : ErrKind) : (s.raised e).input = s.input := rfl
@[simp] theorem State.raised_inputBase (e : ErrKind) : (s.raised e).inputBase = s.inputBase := rfl
@[simp] theorem State.raised_inputLen (e : ErrKind) : (s.raised e).inputLen = s.inputLen := rfl
@[simp] theorem State.raised_outputLen (e : ErrKind) : (s.raised e).outputLen = s.outputLen := rfl
@[simp] theorem State.raised_pendingLength (e : ErrKind) : (s.raised e).pendingLength = none := rfl
@[simp] theorem State.raised_hostMoves (e : ErrKind) : (s.raised e).hostMoves = s.hostMoves := rfl
@[simp] theorem State.raised_freeIndex (e : ErrKind) : (s.raised e).freeIndex = s.freeIndex := rfl
@[simp] theorem State.raised_dictSize (e : ErrKind) : (s.raised e).dictSize = s.dictSize := rfl

@[simp] theorem State.consumed_bitAccumulator (k : Nat) : (s.consumed k).bitAccumulator = s.bitAccumulator >>> k := rfl
@[simp] theorem State.consumed_bitCount (k : Nat) : (s.consumed k).bitCount = s.bitCount - k := rfl
@[simp] theorem State.consumed_inputPos (k : Nat) : (s.consumed k).inputPos = s.inputPos := rfl
@[simp] theorem State.consumed_outputPos (k : Nat) : (s.consumed k).outputPos = s.outputPos := rfl
@[simp] theorem State.consumed_dictWritePos (k : Nat) : (s.consumed k).dictWritePos = s.dictWritePos := rfl
@[simp] theorem State.consumed_dictFilledSize (k : Nat) : (s.consumed k).dictFilledSize = s.dictFilledSize := rfl
@[simp] theorem State.consumed_literalModeFlag (k : Nat) : (s.consumed k).literalModeFlag = s.literalModeFlag := rfl
@[simp] theorem State.consumed_dictSizeCode (k : Nat) : (s.consumed k).dictSizeCode = s.dictSizeCode := rfl
@[simp] theorem State.consumed_fsm (k : Nat) : (s.consumed k).fsm = s.fsm := rfl
@[simp] theorem State.consumed_err (k : Nat) : (s.consumed k).err = s.err := rfl
@[simp] theorem State.consumed_dict (k : Nat) : (s.consumed k).dict = s.dict := rfl
@[simp] theorem State.consumed_out (k : Nat) : (s.consumed k).out = s.out := rfl
@[simp] theorem State.consumed_input (k : Nat) : (s.consumed k).input = s.input := rfl
@[simp] theorem State.consumed_inputBase (k : Nat) : (s.consumed k).inputBase = s.inputBase := rfl
@[simp] theorem State.consumed_inputLen (k : Nat) : (s.consumed k).inputLen = s.inputLen := rfl
@[simp] theorem State.consumed_outputLen (k : Nat) : (s.consumed k).outputLen = s.outputLen := rfl
@[simp] theorem State.consumed_pendingLength (k : Nat) : (s.consumed k).pendingLength = s.pendingLength := rfl
@[simp] theorem State.consumed_hostMoves (k : Nat) : (s.consumed k).hostMoves = s.hostMoves := rfl
@[simp] theorem State.consumed_freeIndex (k : Nat) : (s.consumed k).freeIndex = s.freeIndex := rfl
@[simp] theorem State.consumed_dictSize (k : Nat) : (s.consumed k).dictSize = s.dictSize := rfl

@[simp] theorem State.fetched_bitAccumulator (b : Byte) : (s.fetched b).bitAccumulator = s.bitAccumulator ||| b.setWidth 32 <<< s.bitCount := rfl
@[simp] theorem State.fetched_bitCount (b : Byte) : (s.fetched b).bitCount = s.bitCount + 8 := rfl
@[simp] theorem State.fetched_inputPos (b : Byte) : (s.fetched b).inputPos = s.inputPos + 1 := rfl
@[simp] theorem State.fetched_outputPos (b : Byte) : (s.fetched b).outputPos = s.outputPos := rfl
@[simp] theorem State.fetched_dictWritePos (b : Byte) : (s.fetched b).dictWritePos = s.dictWritePos := rfl
@[simp] theorem State.fetched_dictFilledSize (b : Byte) : (s.fetched b).dictFilledSize = s.dictFilledSize := rfl
@[simp] theorem State.fetched_literalModeFlag (b : Byte) : (s.fetched b).literalModeFlag = s.literalModeFlag := rfl
@[simp] theorem State.fetched_dictSizeCode (b : Byte) : (s.fetched b).dictSizeCode = s.dictSizeCode := rfl
@[simp] theorem State.fetched_fsm (b : Byte) : (s.fetched b).fsm = s.fsm := rfl
@[simp] theorem State.fetched_err (b : Byte) : (s.fetched b).err = s.err := rfl
@[simp] theorem State.fetched_dict (b : Byte) : (s.fetched b).dict = s.dict := rfl
@[simp] theorem State.fetched_out (b : Byte) : (s.fetched b).out = s.out := rfl
@[simp] theorem State.fetched_input (b : Byte) : (s.fetched b).input = s.input := rfl
@[simp] theorem State.fetched_inputBase (b : Byte) : (s.fetched b).inputBase = s.inputBase := rfl
@[simp] theorem State.fetched_inputLen (b : Byte) : (s.fetched b).inputLen = s.inputLen := rfl
@[simp] theorem State.fetched_outputLen (b : Byte) : (s.fetched b).outputLen = s.outputLen := rfl
@[simp] theorem State.fetched_pendingLength (b : Byte) : (s.fetched b).pendingLength = s.pendingLength := rfl
@[simp] theorem State.fetched_hostMoves (b : Byte) : (s.fetched b).hostMoves = s.hostMoves := rfl
@[simp] theorem State.fetched_freeIndex (b : Byte) : (s.fetched b).freeIndex = s.freeIndex := rfl
@[simp] theorem State.fetched_dictSize (b : Byte) : (s.fetched b).dictSize = s.dictSize := rfl

@[simp] theorem State.emitted_bitAccumulator (b : Byte) : (s.emitted b).bitAccumulator = s.bitAccumulator := rfl
@[simp] theorem State.emitted_bitCount (b : Byte) : (s.emitted b).bitCount = s.bitCount := rfl
@[simp] theorem State.emitted_inputPos (b : Byte) : (s.emitted b).inputPos = s.inputPos := rfl
@[simp] theorem State.emitted_outputPos (b : Byte) : (s.emitted b).outputPos = s.outputPos + 1 := rfl
@[simp] theorem State.emitted_dictWritePos (b : Byte) : (s.emitted b).dictWritePos = (s.dictWritePos + 1) % s.dictSize := rfl
@[simp] theorem State.emitted_dictFilledSize (b : Byte) : (s.emitted b).dictFilledSize = if s.dictFilledSize < s.dictSize then s.dictFilledSize + 1 else s.dictFilledSize := rfl
@[simp] theorem State.emitted_literalModeFlag (b : Byte) : (s.emitted b).literalModeFlag = s.literalModeFlag := rfl
@[simp] theorem State.emitted_dictSizeCode (b : Byte) : (s.emitted b).dictSizeCode = s.dictSizeCode := rfl
@[simp] theorem State.emitted_fsm (b : Byte) : (s.emitted b).fsm = s.fsm := rfl
@[simp] theorem State.emitted_err (b : Byte) : (s.emitted b).err = s.err := rfl
@[simp] theorem State.emitted_dict (b : Byte) : (s.emitted b).dict = s.dict.write s.dictWritePos b := rfl
@[simp] theorem State.emitted_out (b : Byte) : (s.emitted b).out = s.out.write s.outputPos b := rfl
@[simp] theorem State.emitted_input (b : Byte) : (s.emitted b).input = s.input := rfl
@[simp] theorem State.emitted_inputBase (b : Byte) : (s.emitted b).inputBase = s.inputBase := rfl
@[simp] theorem State.emitted_inputLen (b : Byte) : (s.emitted b).inputLen = s.inputLen := rfl
@[simp] theorem State.emitted_outputLen (b : Byte) : (s.emitted b).outputLen = s.outputLen := rfl
@[simp] theorem State.emitted_pendingLength (b : Byte) : (s.emitted b).pendingLength = s.pendingLength := rfl
@[simp] theorem State.emitted_hostMoves (b : Byte) : (s.emitted b).hostMoves = s.hostMoves := rfl
@[simp] theorem State.emitted_freeIndex (b : Byte) : (s.emitted b).freeIndex = s.freeIndex := rfl
@[simp] theorem State.emitted_dictSize (b : Byte) : (s.emitted b).dictSize = s.dictSize := rfl

@[simp] theorem State.finished_bitAccumulator : s.finished.bitAccumulator = s.bitAccumulator := rfl
@[simp] theorem State.finished_bitCount : s.finished.bitCount = s.bitCount := rfl
@[simp] theorem State.finished_inputPos : s.finished.inputPos = s.inputPos := rfl
@[simp] theorem State.finished_outputPos : s.finished.outputPos = s.outputPos := rfl
@[simp] theorem State.finished_dictWritePos : s.finished.dictWritePos = s.dictWritePos := rfl
@[simp] theorem State.finished_dictFilledSize : s.finished.dictFilledSize = s.dictFilledSize := rfl
@[simp] theorem State.finished_literalModeFlag : s.finished.literalModeFlag = s.literalModeFlag := rfl
@[simp] theorem State.finished_dictSizeCode : s.finished.dictSizeCode = s.dictSizeCode := rfl
@[simp] theorem State.finished_fsm : s.finished.fsm = .done := rfl
@[simp] theorem State.finished_err : s.finished.err = s.err := rfl
@[simp] theorem State.finished_dict : s.finished.dict = s.dict := rfl
@[simp] theorem State.finished_out : s.finished.out = s.out := rfl
@[simp] theorem State.finished_input : s.finished.input = s.input := rfl
@[simp] theorem State.finished_inputBase : s.finished.inputBase = s.inputBase := rfl
@[simp] theorem State.finished_inputLen : s.finished.inputLen = s.inputLen := rfl
@[simp] theorem State.finished_outputLen : s.finished.outputLen = s.outputLen := rfl
@[simp] theorem State.finished_pendingLength : s.finished.pendingLength = s.pendingLength := rfl
@[simp] theorem State.finished_hostMoves : s.finished.hostMoves = s.hostMoves := rfl
@[simp] theorem State.finished_freeIndex : s.finished.freeIndex = s.freeIndex := rfl
@[simp] theorem State.finished_dictSize : s.finished.dictSize = s.dictSize := rfl

@[simp] theorem State.withParams_bitAccumulator (p q r : Nat) : (s.withParams p q r).bitAccumulator = s.bitAccumulator := rfl
@[simp] theorem State.withParams_bitCount (p q r : Nat) : (s.withParams p q r).bitCount = s.bitCount := rfl
@[simp] theorem State.withParams_inputPos (p q r : Nat) : (s.withParams p q r).inputPos = s.inputPos := rfl
@[simp] theorem State.withParams_outputPos (p q r : Nat) : (s.withParams p q r).outputPos = s.outputPos := rfl
@[simp] theorem State.withParams_dictWritePos (p q r : Nat) : (s.withParams p q r).dictWritePos = s.dictWritePos := rfl
@[simp] theorem State.withParams_dictFilledSize (p q r : Nat) : (s.withParams p q r).dictFilledSize = s.dictFilledSize := rfl
@[simp] theorem State.withParams_literalModeFlag (p q r : Nat) : (s.withParams p q r).literalModeFlag = s.literalModeFlag := rfl
@[simp] theorem State.withParams_dictSizeCode (p q r : Nat) : (s.withParams p q r).dictSizeCode = s.dictSizeCode := rfl
@[simp] theorem State.withParams_fsm (p q r : Nat) : (s.withParams p q r).fsm = s.fsm := rfl
@[simp] theorem State.withParams_err (p q r : Nat) : (s.withParams p q r).err = s.err := rfl
@[simp] theorem State.withParams_dict (p q r : Nat) : (s.withParams p q r).dict = s.dict := rfl
@[simp] theorem State.withParams_out (p q r : Nat) : (s.withParams p q r).out = s.out := rfl
@[simp] theorem State.withParams_input (p q r : Nat) : (s.withParams p q r).input = s.input := rfl
@[simp] theorem State.withParams_inputBase (p q r : Nat) : (s.withParams p q r).inputBase = p := rfl
@[simp] theorem State.withParams_inputLen (p q r : Nat) : (s.withParams p q r).inputLen = q := rfl
@[simp] theorem State.withParams_outputLen (p q r : Nat) : (s.withParams p q r).outputLen = r := rfl
@[simp] theorem State.withParams_pendingLength (p q r : Nat) : (s.withParams p q r).pendingLength = s.pendingLength := rfl
@[simp] theorem State.withParams_hostMoves (p q r : Nat) : (s.withParams p q r).hostMoves = s.hostMoves := rfl
@[simp] theorem State.withParams_freeIndex (p q r : Nat) : (s.withParams p q r).freeIndex = s.freeIndex := rfl
@[simp] theorem State.withParams_dictSize (p q r : Nat) : (s.withParams p q r).dictSize = s.dictSize := rfl

@[simp] theorem State.launchFailed_bitAccumulator (e : ErrKind) : (s.launchFailed e).bitAccumulator = 0 := rfl
@[simp] theorem State.launchFailed_bitCount (e : ErrKind) : (s.launchFailed e).bitCount = 0 := rfl
@[simp] theorem State.launchFailed_inputPos (e : ErrKind) : (s.launchFailed e).inputPos = s.inputBase := rfl
@[simp] theorem State.launchFailed_outputPos (e : ErrKind) : (s.launchFailed e).outputPos = 0 := rfl
@[simp] theorem State.launchFailed_dictWritePos (e : ErrKind) : (s.launchFailed e).dictWritePos = 0 := rfl
@[simp] theorem State.launchFailed_dictFilledSize (e : ErrKind) : (s.launchFailed e).dictFilledSize = 0 := rfl
@[simp] theorem State.launchFailed_literalModeFlag (e : ErrKind) : (s.launchFailed e).literalModeFlag = Config.freeLiteralModeFlag s.freeIndex := rfl
@[simp] theorem State.launchFailed_dictSizeCode (e : ErrKind) : (s.launchFailed e).dictSizeCode = Config.freeDictSizeCode s.freeIndex := rfl
@[simp] theorem State.launchFailed_fsm (e : ErrKind) : (s.launchFailed e).fsm = .failed := rfl
@[simp] theorem State.launchFailed_err (e : ErrKind) : (s.launchFailed e).err = e := rfl
@[simp] theorem State.launchFailed_dict (e : ErrKind) : (s.launchFailed e).dict = s.dict := rfl
@[simp] theorem State.launchFailed_out (e : ErrKind) : (s.launchFailed e).out = s.out := rfl
@[simp] theorem State.launchFailed_input (e : ErrKind) : (s.launchFailed e).input = s.input := rfl
@[simp] theorem State.launchFailed_inputBase (e : ErrKind) : (s.launchFailed e).inputBase = s.inputBase := rfl
@[simp] theorem State.launchFailed_inputLen (e : ErrKind) : (s.launchFailed e).inputLen = s.inputLen := rfl
@[simp] theorem State.launchFailed_outputLen (e : ErrKind) : (s.launchFailed e).outputLen = s.outputLen := rfl
@[simp] theorem State.launchFailed_pendingLength (e : ErrKind) : (s.launchFailed e).pendingLength = none := rfl
@[simp] theorem State.launchFailed_hostMoves (e : ErrKind) : (s.launchFailed e).hostMoves = s.hostMoves := rfl
@[simp] theorem State.launchFailed_freeIndex (e : ErrKind) : (s.launchFailed e).freeIndex = s.freeIndex + 1 := rfl

@[simp] theorem State.launched_bitAccumulator (f c : Byte) : (s.launched f c).bitAccumulator = 0 := rfl
@[simp] theorem State.launched_bitCount (f c : Byte) : (s.launched f c).bitCount = 0 := rfl
@[simp] theorem State.launched_inputPos (f c : Byte) : (s.launched f c).inputPos = s.inputBase + 2 := rfl
@[simp] theorem State.launched_outputPos (f c : Byte) : (s.launched f c).outputPos = 0 := rfl
@[simp] theorem State.launched_dictWritePos (f c : Byte) : (s.launched f c).dictWritePos = 0 := rfl
@[simp] theorem State.launched_dictFilledSize (f c : Byte) : (s.launched f c).dictFilledSize = 0 := rfl
@[simp] theorem State.launched_literalModeFlag (f c : Byte) : (s.launched f c).literalModeFlag = f.setWidth 1 := rfl
@[simp] theorem State.launched_dictSizeCode (f c : Byte) : (s.launched f c).dictSizeCode = c.setWidth 3 := rfl
@[simp] theorem State.launched_fsm (f c : Byte) : (s.launched f c).fsm = .readToken := rfl
@[simp] theorem State.launched_err (f c : Byte) : (s.launched f c).err = .none := rfl
@[simp] theorem State.launched_dict (f c : Byte) : (s.launched f c).dict = s.dict := rfl
@[simp] theorem State.launched_out (f c : Byte) : (s.launched f c).out = s.out := rfl
@[simp] theorem State.launched_input (f c : Byte) : (s.launched f c).input = s.input := rfl
@[simp] theorem State.launched_inputBase (f c : Byte) : (s.launched f c).inputBase = s.inputBase := rfl
@[simp] theorem State.launched_inputLen (f c : Byte) : (s.launched f c).inputLen = s.inputLen := rfl
@[simp] theorem State.launched_outputLen (f c : Byte) : (s.launched f c).outputLen = s.outputLen := rfl
@[simp] theorem State.launched_pendingLength (f c : Byte) : (s.launched f c).pendingLength = none := rfl
@[simp] theorem State.launched_hostMoves (f c : Byte) : (s.launched f c).hostMoves = s.hostMoves := rfl
@[simp] theorem State.launched_freeIndex (f c : Byte) : (s.launched f c).freeIndex = s.freeIndex := rfl

end Sys2Proof.Machine
end

