-- ==== Sys2Proof/Laws/Ops.lean ====
section
/-!
SUPPORT. What each shared operation can do, once: later proofs cite these and never unfold the operation.
-/

namespace Sys2Proof.Machine

/-! ### Sequencing -/

@[simp] theorem Res.ok_bind {α β : Type} (a : α) (f : α → Res β) : (Except.ok a >>= f : Res β) = f a := rfl

@[simp] theorem Res.error_bind {α β : Type} (o : Host.Outcome State Fault Refusal) (f : α → Res β) :
    (Except.error o >>= f : Res β) = Except.error o := rfl

/-- A sequence answers a value exactly when both parts do. -/
theorem Res.bind_eq_ok {α β : Type} {x : Res α} {f : α → Res β} {b : β} :
    (x >>= f) = Except.ok b ↔ ∃ a, x = Except.ok a ∧ f a = Except.ok b := by
  cases x <;> simp

/-- A sequence ends the step where its first part does, or where the second does after it. -/
theorem Res.bind_eq_error {α β : Type} {x : Res α} {f : α → Res β} {o : Host.Outcome State Fault Refusal} :
    (x >>= f) = Except.error o ↔ x = Except.error o ∨ ∃ a, x = Except.ok a ∧ f a = Except.error o := by
  cases x <;> simp

@[simp] theorem Res.outcome_ok (s : State) : Res.outcome (Except.ok s) = .next s := rfl
@[simp] theorem Res.outcome_error (o : Host.Outcome State Fault Refusal) : Res.outcome (Except.error o) = o := rfl

theorem Res.outcome_eq_next {r : Res State} {t : State} :
    r.outcome = .next t ↔ r = Except.ok t ∨ r = Except.error (.next t) := by
  cases r <;> simp

/-! ### The Bit Reader -/

theorem consume_eq_ok {k : Nat} {s t : State} : consume k s = .ok t ↔ k ≤ s.bitCount ∧ t = s.consumed k := by
  unfold consume
  split <;> simp_all [eq_comm]

theorem consume_ok {k : Nat} {s : State} (h : k ≤ s.bitCount) : consume k s = .ok (s.consumed k) :=
  consume_eq_ok.mpr ⟨h, rfl⟩

theorem consume_eq_error {k : Nat} {s : State} {o : Host.Outcome State Fault Refusal} :
    consume k s = .error o ↔ s.bitCount < k ∧ o = .refused .bitsNotAvailable := by
  unfold consume
  split <;> simp_all [eq_comm]

theorem peek_ok {k : Nat} {s : State} (h : k ≤ s.bitCount) : peek k s = .ok (s.bitAccumulator.toNat % 2 ^ k) :=
  if_pos h

theorem raise_eq {α : Type} (e : ErrKind) (s : State) : (raise e s : Res α) = .error (.next (s.raised e)) := rfl

@[simp] theorem raise_ne_ok {α : Type} (e : ErrKind) (s : State) (a : α) : (raise e s : Res α) ≠ .ok a := by
  simp [raise]

theorem readIn_ok {a : Nat} {s : State} {b : Byte} (ha : a < s.inputLen) (hb : s.input.read a = some b) :
    readIn a s = .ok b := by
  simp [readIn, Nat.not_le.mpr ha, hb]

/-- One fetch: a byte goes in above the bits held, or the input is at its end, or the host left a hole in it. -/
theorem fetchByte_cases (s : State) :
    (∃ b, s.inputPos < s.inputLen ∧ s.input.read s.inputPos = some b ∧ fetchByte s = .ok (s.fetched b)) ∨
    (s.inputLen ≤ s.inputPos ∧ fetchByte s = .error (.next (s.raised .incompleteInput))) ∨
    (s.inputPos < s.inputLen ∧ s.input.read s.inputPos = none ∧ fetchByte s = .error (.fault .inUnwritten)) := by
  unfold fetchByte
  split
  · right; left; exact ⟨‹_›, rfl⟩
  · have hlt : s.inputPos < s.inputLen := by omega
    cases hr : s.input.read s.inputPos with
    | none => right; right; simp [readIn, hr, hlt, Nat.not_le.mpr hlt]
    | some b => left; exact ⟨b, hlt, rfl, by simp [readIn_ok hlt hr]⟩

theorem refillLoop_ok {fuel N : Nat} {s t : State} (h : refillLoop fuel N s = .ok t) :
    t = { s with bitAccumulator := t.bitAccumulator, bitCount := t.bitCount, inputPos := t.inputPos } ∧
    s.bitCount ≤ t.bitCount ∧ t.bitCount + 8 * s.inputPos = s.bitCount + 8 * t.inputPos ∧
    (s.bitCount < N → t.bitCount < N + 8) ∧ (N ≤ s.bitCount → t = s) ∧
    (s.inputPos ≤ s.inputLen → t.inputPos ≤ s.inputLen) ∧ (N ≤ s.bitCount + 8 * fuel → N ≤ t.bitCount) := by
  induction fuel generalizing s with
  | zero =>
    simp only [refillLoop, Except.ok.injEq] at h
    subst h
    exact ⟨rfl, Nat.le_refl _, rfl, by omega, fun _ => rfl, id, by omega⟩
  | succ fuel ih =>
    rw [refillLoop] at h
    split at h
    · obtain ⟨u, hu, ht⟩ := Res.bind_eq_ok.mp h
      rcases fetchByte_cases s with ⟨b, hlt, -, he⟩ | ⟨-, he⟩ | ⟨-, -, he⟩
      · rw [he] at hu
        obtain rfl := Except.ok.inj hu
        obtain ⟨h1, h2, h3, h4, h5, h6, h7⟩ := ih ht
        simp only [State.fetched_bitCount, State.fetched_inputPos, State.fetched_inputLen] at *
        refine ⟨?_, by omega, by omega, ?_, by omega, fun _ => h6 hlt, by omega⟩
        · rw [h1]; rfl
        · intro hN
          by_cases hge : N ≤ s.bitCount + 8
          · rw [h5 hge]; simp only [State.fetched_bitCount]; omega
          · exact h4 (by omega)
      · rw [he] at hu; cases hu
      · rw [he] at hu; cases hu
    · obtain rfl := Except.ok.inj h
      exact ⟨rfl, Nat.le_refl _, rfl, by omega, fun _ => rfl, id, by omega⟩

/-- Everything a successful `refill(N)` does (41_bit_reader.md R80, R84): only the reader's three registers change, the bit
cursor does not, at least `N` bits are held, nothing is fetched that is not needed. -/
theorem refill_ok {N : Nat} {s t : State} (h : refill N s = .ok t) :
    t = { s with bitAccumulator := t.bitAccumulator, bitCount := t.bitCount, inputPos := t.inputPos } ∧
    N ≤ t.bitCount ∧ s.bitCount ≤ t.bitCount ∧ t.bitCount + 8 * s.inputPos = s.bitCount + 8 * t.inputPos ∧
    (s.bitCount < N → t.bitCount < N + 8) ∧ (N ≤ s.bitCount → t = s) ∧
    (s.inputPos ≤ s.inputLen → t.inputPos ≤ s.inputLen) := by
  obtain ⟨h1, h2, h3, h4, h5, h6, h7⟩ := refillLoop_ok h
  exact ⟨h1, h7 (by omega), h2, h3, h4, h5, h6⟩

/-- A refill is on demand: with `N` bits held, nothing is fetched and no fault is possible (41_bit_reader.md R80 (a)). -/
theorem refill_of_le {N : Nat} {s : State} (h : N ≤ s.bitCount) : refill N s = .ok s := by
  unfold refill
  cases N with
  | zero => rfl
  | succ n => rw [refillLoop, if_neg (by omega)]

/-! ### The dictionary -/

theorem emit_eq_ok {b : Byte} {s t : State} :
    emit b s = .ok t ↔ s.outputPos < s.outputLen ∧ s.dictWritePos < Config.dictCap ∧ t = s.emitted b := by
  unfold emit
  split
  · simp; omega
  · split
    · simp; omega
    · simp_all [eq_comm]

theorem emit_ok {b : Byte} {s : State} (h : s.outputPos < s.outputLen) (hd : s.dictWritePos < Config.dictCap) :
    emit b s = .ok (s.emitted b) := emit_eq_ok.mpr ⟨h, hd, rfl⟩

/-- The read address is one of the valid bytes' (42_dictionary.md R92). -/
theorem readBackPos_lt {D : Nat} {s : State} (h : 0 < s.dictFilledSize) : s.readBackPos D < s.dictFilledSize := by
  unfold State.readBackPos
  have h1 := Int.emod_nonneg ((s.dictWritePos : Int) - 1 - D) (b := (s.dictFilledSize : Int)) (by omega)
  have h2 := Int.emod_lt_of_pos ((s.dictWritePos : Int) - 1 - D) (b := (s.dictFilledSize : Int)) (by omega)
  omega

theorem readBack_eq_ok {D : Nat} {s : State} {b : Byte} :
    readBack D s = .ok b ↔
      0 < s.dictFilledSize ∧ s.readBackPos D < Config.dictCap ∧ s.dict.read (s.readBackPos D) = some b := by
  unfold readBack
  split
  · simp_all
  · split
    · simp; omega
    · cases hr : s.dict.read (s.readBackPos D)
      · simp_all
      · simp_all
        omega

/-- A copy's byte, taken apart: the state after the first byte, and the rest. -/
theorem copyBytes_succ_eq_ok {L D : Nat} {s t : State} :
    copyBytes (L + 1) D s = .ok t ↔
      ∃ b, s.outputPos ≠ s.outputLen ∧ readBack D s = .ok b ∧ s.outputPos < s.outputLen ∧
        s.dictWritePos < Config.dictCap ∧ copyBytes L D (s.emitted b) = .ok t := by
  rw [copyBytes]
  split
  · simp_all
  · simp only [Res.bind_eq_ok, emit_eq_ok]
    constructor
    · rintro ⟨b, hb, u, ⟨h1, h2, rfl⟩, hc⟩
      exact ⟨b, ‹_›, hb, h1, h2, hc⟩
    · rintro ⟨b, -, hb, h1, h2, hc⟩
      exact ⟨b, hb, _, ⟨h1, h2, rfl⟩, hc⟩

/-- A completed copy touches neither the reader nor the status nor the configuration, and moves `outputPos` by its
length. -/
theorem copyBytes_frame {L D : Nat} {s t : State} (h : copyBytes L D s = .ok t) :
    t = { s with
      out := t.out, dict := t.dict, outputPos := t.outputPos, dictWritePos := t.dictWritePos,
      dictFilledSize := t.dictFilledSize } ∧
    t.outputPos = s.outputPos + L := by
  induction L generalizing s with
  | zero => obtain rfl := Except.ok.inj h; exact ⟨rfl, rfl⟩
  | succ L ih =>
    obtain ⟨b, -, -, -, -, hc⟩ := copyBytes_succ_eq_ok.mp h
    obtain ⟨h1, h2⟩ := ih hc
    refine ⟨by rw [h1]; rfl, ?_⟩
    rw [h2, State.emitted_outputPos]
    omega

/-- A completed copy writes `OUT` only from `outputPos` on, for its length. -/
theorem copyBytes_out_outside {L D : Nat} {s t : State} (h : copyBytes L D s = .ok t) {a : Nat}
    (ha : a < s.outputPos ∨ s.outputPos + L ≤ a) : t.out.read a = s.out.read a := by
  induction L generalizing s with
  | zero => obtain rfl := Except.ok.inj h; rfl
  | succ L ih =>
    obtain ⟨b, -, -, -, -, hc⟩ := copyBytes_succ_eq_ok.mp h
    rw [ih hc (by simp only [State.emitted_outputPos]; omega), State.emitted_out,
      Memory.read_write_other _ _ (by omega)]

/-! ### The parts of a token -/

theorem lengthPart_eq_ok {i : Nat} {s t : State} :
    lengthPart i s = .ok t ↔
      lengthPartWidth i ≤ s.bitCount ∧ t = ((s.consumed 1).consumed (Rom.lenBits i)).consumed (Rom.exLenBits i) := by
  constructor
  · intro h
    obtain ⟨u, hu, h⟩ := Res.bind_eq_ok.mp h
    obtain ⟨h1, rfl⟩ := consume_eq_ok.mp hu
    obtain ⟨v, hv, h⟩ := Res.bind_eq_ok.mp h
    obtain ⟨h2, rfl⟩ := consume_eq_ok.mp hv
    obtain ⟨h3, rfl⟩ := consume_eq_ok.mp h
    simp only [State.consumed_bitCount] at h2 h3
    exact ⟨by unfold lengthPartWidth; omega, rfl⟩
  · rintro ⟨h, rfl⟩
    unfold lengthPartWidth at h
    rw [lengthPart, consume_ok (by omega), Res.ok_bind, consume_ok (by rw [State.consumed_bitCount]; omega),
      Res.ok_bind, consume_ok (by simp only [State.consumed_bitCount]; omega)]

theorem offsetPrefix_eq_ok {j : Nat} {s t : State} :
    offsetPrefix j s = .ok t ↔
      ∃ u, refill Config.offsetLookahead s = .ok u ∧ Rom.offsBits j ≤ u.bitCount ∧ t = u.consumed (Rom.offsBits j) := by
  simp only [offsetPrefix, Res.bind_eq_ok, consume_eq_ok]

end Sys2Proof.Machine
end

