-- ==== Sys2Proof/Laws/Rom.lean ====
section
/-!
SUPPORT. Facts about the ROM's contents (31_rom_tables.md R75), each a finite check of the tables.
-/

namespace Sys2Proof.Rom

/-- The codes agree on the bits of the shorter of the two. (Written for the kernel's own arithmetic: the tables have
tens of thousands of pairs.) -/
def Code.clashes (a b : Code) : Bool :=
  Nat.beq (Nat.mod a.code (Nat.pow 2 (bif Nat.ble a.bits b.bits then a.bits else b.bits)))
    (Nat.mod b.code (Nat.pow 2 (bif Nat.ble a.bits b.bits then a.bits else b.bits)))

/-- No entry's code begins with another's (31_rom_tables.md R75 (a)). -/
def prefixFree : List Code → Bool
  | [] => true
  | a :: rest => rest.all (fun b => !a.clashes b) && prefixFree rest

/-- `Σ 2^(n - bits)` over the entries: the code is complete when it is `2^n`, `n` the widest width (R75 (b)). -/
def kraftSum (n : Nat) (tab : List Code) : Nat := (tab.map fun e => 2 ^ (n - e.bits)).sum

/-- Widths within `lo..hi` and every pattern within its width (R75 (c), (e)). -/
def widthsIn (lo hi : Nat) (tab : List Code) : Bool :=
  tab.all fun e => lo ≤ e.bits && e.bits ≤ hi && e.code < 2 ^ e.bits

theorem lenCodes_length : lenCodes.length = 16 := by decide
theorem offsTable_length : offsTable.length = 64 := by decide
theorem chTable_length : chTable.length = 256 := by decide +kernel

theorem lenCodes_prefixFree : prefixFree lenCodes = true := by decide +kernel
theorem offsTable_prefixFree : prefixFree offsTable = true := by decide +kernel
theorem chTable_prefixFree : prefixFree chTable = true := by decide +kernel

theorem lenCodes_complete : kraftSum 7 lenCodes = 2 ^ 7 := by decide +kernel
theorem offsTable_complete : kraftSum 8 offsTable = 2 ^ 8 := by decide +kernel
theorem chTable_complete : kraftSum 13 chTable = 2 ^ 13 := by decide +kernel

theorem lenCodes_widths : widthsIn 2 7 lenCodes = true := by decide +kernel
theorem offsTable_widths : widthsIn 2 8 offsTable = true := by decide +kernel
theorem chTable_widths : widthsIn 4 13 chTable = true := by decide +kernel

/-- A scan's answer is an entry of the table that applies (31_rom_tables.md R71). -/
theorem scan_hits {tab : List Code} {acc k : Nat} (h : scan tab acc = some k) :
    ∃ e, tab[k]? = some e ∧ e.hits acc = true := by
  induction tab generalizing k with
  | nil => simp [scan] at h
  | cons e rest ih =>
    rw [scan] at h
    split at h
    · obtain rfl : 0 = k := by simpa using h
      exact ⟨e, rfl, ‹_›⟩
    · obtain ⟨k', hk', rfl⟩ := Option.map_eq_some_iff.mp h
      exact ih hk'

/-- A scan without an answer has no entry that applies. -/
theorem scan_none {tab : List Code} {acc : Nat} (h : scan tab acc = none) : ∀ e ∈ tab, e.hits acc = false := by
  induction tab with
  | nil => simp
  | cons e rest ih =>
    rw [scan] at h
    split at h
    · simp at h
    · intro d hd
      rcases List.mem_cons.mp hd with rfl | hd
      · rename_i hne
        exact Bool.not_eq_true _ ▸ hne
      · exact ih (by simpa using h) d hd

/-- A scan looks at no bit beyond the widest width: accumulators that agree on their low `n` bits are scanned alike. -/
theorem scan_congr {tab : List Code} {n a b : Nat} (hw : ∀ e ∈ tab, e.bits ≤ n) (h : a % 2 ^ n = b % 2 ^ n) :
    scan tab a = scan tab b := by
  induction tab with
  | nil => rfl
  | cons e rest ih =>
    have he : e.hits a = e.hits b := by
      have hd : 2 ^ e.bits ∣ 2 ^ n := Nat.pow_dvd_pow 2 (hw e (by simp))
      have : a % 2 ^ e.bits = b % 2 ^ e.bits := by
        rw [← Nat.mod_mod_of_dvd a hd, h, Nat.mod_mod_of_dvd b hd]
      simp [Code.hits, this]
    rw [scan, scan, he, ih fun d hd => hw d (by simp [hd])]

end Sys2Proof.Rom
end

