-- ==== Sys2Proof/Laws/Decode.lean ====
section
/-!
SUPPORT. What the rows of the table have in common: an instruction is executed by its format and operands, and the widths
of the fields of the encodings.
-/

namespace Sys2Proof

open Machine

/-- The meaning of a format with operands. -/
def Machine.execShape : Shape → State → Host.Outcome State Fault Refusal
  | .lit8 byte => execLit8 byte
  | .litp b => litp b
  | .copy2 j low => copyToken 0 0 j.toNat low.toNat
  | .copy i extra j low => copyToken i extra j.toNat low.toNat
  | .endOfStream => execEnd
  | .offs j => offs j.toNat

/-- Every row's meaning is its format's: the one place where a proof looks at all the arms of `exec`. -/
theorem Machine.exec_eq_execShape (i : Instr) (s : State) : exec i s = execShape i.shape s := by
  cases i <;> rfl

/-- A copy row's length index is one of the table's. -/
theorem Instr.copy_index_lt {ins : Instr} {i e : Nat} {j low : BitVec 6} (h : ins.shape = .copy i e j low) :
    0 < i ∧ i < 16 ∧ e < 2 ^ Rom.exLenBits i := by
  have key : ∀ k x : Nat, 0 < k ∧ k < 16 ∧ x < 2 ^ Rom.exLenBits k → ∀ a b, Shape.copy k x a b = .copy i e j low →
      0 < i ∧ i < 16 ∧ e < 2 ^ Rom.exLenBits i := by
    rintro k x hk a b ⟨⟩
    exact hk
  cases ins
  case copyL8 x _ _ => exact key 8 x.toNat ⟨by decide, by decide, x.isLt⟩ _ _ h
  case copyL9 x _ _ => exact key 9 x.toNat ⟨by decide, by decide, x.isLt⟩ _ _ h
  case copyL10 x _ _ => exact key 10 x.toNat ⟨by decide, by decide, x.isLt⟩ _ _ h
  case copyL11 x _ _ => exact key 11 x.toNat ⟨by decide, by decide, x.isLt⟩ _ _ h
  case copyL12 x _ _ => exact key 12 x.toNat ⟨by decide, by decide, x.isLt⟩ _ _ h
  case copyL13 x _ _ => exact key 13 x.toNat ⟨by decide, by decide, x.isLt⟩ _ _ h
  case copyL14 x _ _ => exact key 14 x.toNat ⟨by decide, by decide, x.isLt⟩ _ _ h
  case copyL15 x _ _ => exact key 15 x.toNat ⟨by decide, by decide, x.isLt⟩ _ _ h
  case copyL1 => exact key 1 0 (by decide) _ _ h
  case copyL2 => exact key 2 0 (by decide) _ _ h
  case copyL3 => exact key 3 0 (by decide) _ _ h
  case copyL4 => exact key 4 0 (by decide) _ _ h
  case copyL5 => exact key 5 0 (by decide) _ _ h
  case copyL6 => exact key 6 0 (by decide) _ _ h
  case copyL7 => exact key 7 0 (by decide) _ _ h
  all_goals exact Shape.noConfusion h

theorem chBits_range (b : Byte) : 4 ≤ Rom.chBits b.toNat ∧ Rom.chBits b.toNat ≤ 13 := by
  have h : ∀ n < 256, 4 ≤ Rom.chBits n ∧ Rom.chBits n ≤ 13 := by decide +kernel
  exact h _ b.isLt

theorem offsBits_range (j : BitVec 6) : 2 ≤ Rom.offsBits j.toNat ∧ Rom.offsBits j.toNat ≤ 8 := by
  have h : ∀ n < 64, 2 ≤ Rom.offsBits n ∧ Rom.offsBits n ≤ 8 := by decide +kernel
  exact h _ j.isLt

theorem lengthPart_range (i : Nat) (h : i < 16) :
    2 ≤ Rom.lenBits i + Rom.exLenBits i ∧ Rom.lenBits i + Rom.exLenBits i ≤ 15 := by
  revert i
  decide +kernel

theorem sizeLegal_of_wellFormed {c : Ctx} {i : Instr} (h : wellFormed c i = true) :
    4 ≤ c.dictSizeCode.toNat ∧ c.dictSizeCode.toNat ≤ 6 := by
  simp only [wellFormed, Bool.and_eq_true, Ctx.sizeLegal, decide_eq_true_eq] at h
  exact h.1

/-- Row `LITP.c` stands at place `c` of the literal rows. -/
theorem literalRows_shape : ∀ c < 256, (literalRows[c]?.map Instr.shape) = some (.litp (BitVec.ofNat 8 c)) := by
  decide +kernel

/-- Row `OFFS.j` stands at place `j` of the offset rows. -/
theorem offsetRows_shape : ∀ j < 64, (offsetRows[j]?.map Instr.shape) = some (.offs (BitVec.ofNat 6 j)) := by
  decide +kernel

end Sys2Proof
end

