-- ==== Sys2Proof/Laws/PerInstr.lean ====
section
/-!
SUPPORT. Statements made per instruction. `EncodedWidth`: the encoding of a well-formed instruction has a width of its
format's range (30_encoding.md R60; for the offset prefix, 31_rom_tables.md R75 (c)).
-/

namespace Sys2Proof.Laws

/-- The least and the greatest width of a format (30_encoding.md R60). -/
def EncodedWidth.range : Shape → Nat × Nat
  | .lit8 _ => (9, 9)
  | .litp _ => (5, 14)
  | .copy2 _ _ => (8, 14)
  | .copy _ _ _ _ => (9, 30)
  | .endOfStream => (16, 16)
  | .offs _ => (2, 8)

def EncodedWidth.Statement (i : Instr) : Prop :=
  ∀ c : Ctx, wellFormed c i = true →
    (EncodedWidth.range i.shape).1 ≤ tokenWidth c i ∧ tokenWidth c i ≤ (EncodedWidth.range i.shape).2

theorem EncodedWidth.of_litp {i : Instr} {b : Byte} (h : i.shape = .litp b) : EncodedWidth.Statement i := by
  intro c _
  have hb := chBits_range b
  simp only [range, tokenWidth, encode, Bits.cat, h]
  omega

theorem EncodedWidth.of_offs {i : Instr} {j : BitVec 6} (h : i.shape = .offs j) : EncodedWidth.Statement i := by
  intro c _
  have hj := offsBits_range j
  simp only [range, tokenWidth, encode, offsetBits, h]
  omega

theorem EncodedWidth.of_copy2 {i : Instr} {j : BitVec 6} {low : BitVec 2} (h : i.shape = .copy2 j low) :
    EncodedWidth.Statement i := by
  intro c _
  have hj := offsBits_range j
  have h0 : Rom.lenBits 0 = 3 ∧ Rom.exLenBits 0 = 0 := by decide
  simp only [range, tokenWidth, encode, lengthBits, offsetBits, Bits.cat, h, h0]
  omega

theorem EncodedWidth.of_copy {ins : Instr} {i e : Nat} {j low : BitVec 6} (h : ins.shape = .copy i e j low)
    (hi : i < 16) : EncodedWidth.Statement ins := by
  intro c hw
  have hj := offsBits_range j
  have hl := lengthPart_range i hi
  have hc := sizeLegal_of_wellFormed hw
  simp only [range, tokenWidth, encode, lengthBits, offsetBits, Bits.cat, h]
  omega

theorem EncodedWidth.lit8 (byte : Byte) : EncodedWidth.Statement (.lit8 byte) := fun _ _ => ⟨Nat.le_refl 9, Nat.le_refl 9⟩
theorem EncodedWidth.endOfStream : EncodedWidth.Statement .endOfStream := fun _ _ =>
  (by decide : (16 : Nat) ≤ (lengthBits 15 255).width ∧ (lengthBits 15 255).width ≤ 16)
theorem EncodedWidth.copy2 (j : BitVec 6) (low : BitVec 2) : EncodedWidth.Statement (.copy2 j low) := of_copy2 rfl
theorem EncodedWidth.copyL1 (j low : BitVec 6) : EncodedWidth.Statement (.copyL1 j low) := of_copy rfl (by decide)
theorem EncodedWidth.copyL2 (j low : BitVec 6) : EncodedWidth.Statement (.copyL2 j low) := of_copy rfl (by decide)
theorem EncodedWidth.copyL3 (j low : BitVec 6) : EncodedWidth.Statement (.copyL3 j low) := of_copy rfl (by decide)
theorem EncodedWidth.copyL4 (j low : BitVec 6) : EncodedWidth.Statement (.copyL4 j low) := of_copy rfl (by decide)
theorem EncodedWidth.copyL5 (j low : BitVec 6) : EncodedWidth.Statement (.copyL5 j low) := of_copy rfl (by decide)
theorem EncodedWidth.copyL6 (j low : BitVec 6) : EncodedWidth.Statement (.copyL6 j low) := of_copy rfl (by decide)
theorem EncodedWidth.copyL7 (j low : BitVec 6) : EncodedWidth.Statement (.copyL7 j low) := of_copy rfl (by decide)
theorem EncodedWidth.copyL8 (extra : BitVec 1) (j low : BitVec 6) : EncodedWidth.Statement (.copyL8 extra j low) := of_copy rfl (by decide)
theorem EncodedWidth.copyL9 (extra : BitVec 2) (j low : BitVec 6) : EncodedWidth.Statement (.copyL9 extra j low) := of_copy rfl (by decide)
theorem EncodedWidth.copyL10 (extra : BitVec 3) (j low : BitVec 6) : EncodedWidth.Statement (.copyL10 extra j low) := of_copy rfl (by decide)
theorem EncodedWidth.copyL11 (extra : BitVec 4) (j low : BitVec 6) : EncodedWidth.Statement (.copyL11 extra j low) := of_copy rfl (by decide)
theorem EncodedWidth.copyL12 (extra : BitVec 5) (j low : BitVec 6) : EncodedWidth.Statement (.copyL12 extra j low) := of_copy rfl (by decide)
theorem EncodedWidth.copyL13 (extra : BitVec 6) (j low : BitVec 6) : EncodedWidth.Statement (.copyL13 extra j low) := of_copy rfl (by decide)
theorem EncodedWidth.copyL14 (extra : BitVec 7) (j low : BitVec 6) : EncodedWidth.Statement (.copyL14 extra j low) := of_copy rfl (by decide)
theorem EncodedWidth.copyL15 (extra : BitVec 8) (j low : BitVec 6) : EncodedWidth.Statement (.copyL15 extra j low) := of_copy rfl (by decide)
theorem EncodedWidth.litp00 : EncodedWidth.Statement .litp00 := of_litp rfl
theorem EncodedWidth.litp01 : EncodedWidth.Statement .litp01 := of_litp rfl
theorem EncodedWidth.litp02 : EncodedWidth.Statement .litp02 := of_litp rfl
theorem EncodedWidth.litp03 : EncodedWidth.Statement .litp03 := of_litp rfl
theorem EncodedWidth.litp04 : EncodedWidth.Statement .litp04 := of_litp rfl
theorem EncodedWidth.litp05 : EncodedWidth.Statement .litp05 := of_litp rfl
theorem EncodedWidth.litp06 : EncodedWidth.Statement .litp06 := of_litp rfl
theorem EncodedWidth.litp07 : EncodedWidth.Statement .litp07 := of_litp rfl
theorem EncodedWidth.litp08 : EncodedWidth.Statement .litp08 := of_litp rfl
theorem EncodedWidth.litp09 : EncodedWidth.Statement .litp09 := of_litp rfl
theorem EncodedWidth.litp0A : EncodedWidth.Statement .litp0A := of_litp rfl
theorem EncodedWidth.litp0B : EncodedWidth.Statement .litp0B := of_litp rfl
theorem EncodedWidth.litp0C : EncodedWidth.Statement .litp0C := of_litp rfl
theorem EncodedWidth.litp0D : EncodedWidth.Statement .litp0D := of_litp rfl
theorem EncodedWidth.litp0E : EncodedWidth.Statement .litp0E := of_litp rfl
theorem EncodedWidth.litp0F : EncodedWidth.Statement .litp0F := of_litp rfl
theorem EncodedWidth.litp10 : EncodedWidth.Statement .litp10 := of_litp rfl
theorem EncodedWidth.litp11 : EncodedWidth.Statement .litp11 := of_litp rfl
theorem EncodedWidth.litp12 : EncodedWidth.Statement .litp12 := of_litp rfl
theorem EncodedWidth.litp13 : EncodedWidth.Statement .litp13 := of_litp rfl
theorem EncodedWidth.litp14 : EncodedWidth.Statement .litp14 := of_litp rfl
theorem EncodedWidth.litp15 : EncodedWidth.Statement .litp15 := of_litp rfl
theorem EncodedWidth.litp16 : EncodedWidth.Statement .litp16 := of_litp rfl
theorem EncodedWidth.litp17 : EncodedWidth.Statement .litp17 := of_litp rfl
theorem EncodedWidth.litp18 : EncodedWidth.Statement .litp18 := of_litp rfl
theorem EncodedWidth.litp19 : EncodedWidth.Statement .litp19 := of_litp rfl
theorem EncodedWidth.litp1A : EncodedWidth.Statement .litp1A := of_litp rfl
theorem EncodedWidth.litp1B : EncodedWidth.Statement .litp1B := of_litp rfl
theorem EncodedWidth.litp1C : EncodedWidth.Statement .litp1C := of_litp rfl
theorem EncodedWidth.litp1D : EncodedWidth.Statement .litp1D := of_litp rfl
theorem EncodedWidth.litp1E : EncodedWidth.Statement .litp1E := of_litp rfl
theorem EncodedWidth.litp1F : EncodedWidth.Statement .litp1F := of_litp rfl
theorem EncodedWidth.litp20 : EncodedWidth.Statement .litp20 := of_litp rfl
theorem EncodedWidth.litp21 : EncodedWidth.Statement .litp21 := of_litp rfl
theorem EncodedWidth.litp22 : EncodedWidth.Statement .litp22 := of_litp rfl
theorem EncodedWidth.litp23 : EncodedWidth.Statement .litp23 := of_litp rfl
theorem EncodedWidth.litp24 : EncodedWidth.Statement .litp24 := of_litp rfl
theorem EncodedWidth.litp25 : EncodedWidth.Statement .litp25 := of_litp rfl
theorem EncodedWidth.litp26 : EncodedWidth.Statement .litp26 := of_litp rfl
theorem EncodedWidth.litp27 : EncodedWidth.Statement .litp27 := of_litp rfl
theorem EncodedWidth.litp28 : EncodedWidth.Statement .litp28 := of_litp rfl
theorem EncodedWidth.litp29 : EncodedWidth.Statement .litp29 := of_litp rfl
theorem EncodedWidth.litp2A : EncodedWidth.Statement .litp2A := of_litp rfl
theorem EncodedWidth.litp2B : EncodedWidth.Statement .litp2B := of_litp rfl
theorem EncodedWidth.litp2C : EncodedWidth.Statement .litp2C := of_litp rfl
theorem EncodedWidth.litp2D : EncodedWidth.Statement .litp2D := of_litp rfl
theorem EncodedWidth.litp2E : EncodedWidth.Statement .litp2E := of_litp rfl
theorem EncodedWidth.litp2F : EncodedWidth.Statement .litp2F := of_litp rfl
theorem EncodedWidth.litp30 : EncodedWidth.Statement .litp30 := of_litp rfl
theorem EncodedWidth.litp31 : EncodedWidth.Statement .litp31 := of_litp rfl
theorem EncodedWidth.litp32 : EncodedWidth.Statement .litp32 := of_litp rfl
theorem EncodedWidth.litp33 : EncodedWidth.Statement .litp33 := of_litp rfl
theorem EncodedWidth.litp34 : EncodedWidth.Statement .litp34 := of_litp rfl
theorem EncodedWidth.litp35 : EncodedWidth.Statement .litp35 := of_litp rfl
theorem EncodedWidth.litp36 : EncodedWidth.Statement .litp36 := of_litp rfl
theorem EncodedWidth.litp37 : EncodedWidth.Statement .litp37 := of_litp rfl
theorem EncodedWidth.litp38 : EncodedWidth.Statement .litp38 := of_litp rfl
theorem EncodedWidth.litp39 : EncodedWidth.Statement .litp39 := of_litp rfl
theorem EncodedWidth.litp3A : EncodedWidth.Statement .litp3A := of_litp rfl
theorem EncodedWidth.litp3B : EncodedWidth.Statement .litp3B := of_litp rfl
theorem EncodedWidth.litp3C : EncodedWidth.Statement .litp3C := of_litp rfl
theorem EncodedWidth.litp3D : EncodedWidth.Statement .litp3D := of_litp rfl
theorem EncodedWidth.litp3E : EncodedWidth.Statement .litp3E := of_litp rfl
theorem EncodedWidth.litp3F : EncodedWidth.Statement .litp3F := of_litp rfl
theorem EncodedWidth.litp40 : EncodedWidth.Statement .litp40 := of_litp rfl
theorem EncodedWidth.litp41 : EncodedWidth.Statement .litp41 := of_litp rfl
theorem EncodedWidth.litp42 : EncodedWidth.Statement .litp42 := of_litp rfl
theorem EncodedWidth.litp43 : EncodedWidth.Statement .litp43 := of_litp rfl
theorem EncodedWidth.litp44 : EncodedWidth.Statement .litp44 := of_litp rfl
theorem EncodedWidth.litp45 : EncodedWidth.Statement .litp45 := of_litp rfl
theorem EncodedWidth.litp46 : EncodedWidth.Statement .litp46 := of_litp rfl
theorem EncodedWidth.litp47 : EncodedWidth.Statement .litp47 := of_litp rfl
theorem EncodedWidth.litp48 : EncodedWidth.Statement .litp48 := of_litp rfl
theorem EncodedWidth.litp49 : EncodedWidth.Statement .litp49 := of_litp rfl
theorem EncodedWidth.litp4A : EncodedWidth.Statement .litp4A := of_litp rfl
theorem EncodedWidth.litp4B : EncodedWidth.Statement .litp4B := of_litp rfl
theorem EncodedWidth.litp4C : EncodedWidth.Statement .litp4C := of_litp rfl
theorem EncodedWidth.litp4D : EncodedWidth.Statement .litp4D := of_litp rfl
theorem EncodedWidth.litp4E : EncodedWidth.Statement .litp4E := of_litp rfl
theorem EncodedWidth.litp4F : EncodedWidth.Statement .litp4F := of_litp rfl
theorem EncodedWidth.litp50 : EncodedWidth.Statement .litp50 := of_litp rfl
theorem EncodedWidth.litp51 : EncodedWidth.Statement .litp51 := of_litp rfl
theorem EncodedWidth.litp52 : EncodedWidth.Statement .litp52 := of_litp rfl
theorem EncodedWidth.litp53 : EncodedWidth.Statement .litp53 := of_litp rfl
theorem EncodedWidth.litp54 : EncodedWidth.Statement .litp54 := of_litp rfl
theorem EncodedWidth.litp55 : EncodedWidth.Statement .litp55 := of_litp rfl
theorem EncodedWidth.litp56 : EncodedWidth.Statement .litp56 := of_litp rfl
theorem EncodedWidth.litp57 : EncodedWidth.Statement .litp57 := of_litp rfl
theorem EncodedWidth.litp58 : EncodedWidth.Statement .litp58 := of_litp rfl
theorem EncodedWidth.litp59 : EncodedWidth.Statement .litp59 := of_litp rfl
theorem EncodedWidth.litp5A : EncodedWidth.Statement .litp5A := of_litp rfl
theorem EncodedWidth.litp5B : EncodedWidth.Statement .litp5B := of_litp rfl
theorem EncodedWidth.litp5C : EncodedWidth.Statement .litp5C := of_litp rfl
theorem EncodedWidth.litp5D : EncodedWidth.Statement .litp5D := of_litp rfl
theorem EncodedWidth.litp5E : EncodedWidth.Statement .litp5E := of_litp rfl
theorem EncodedWidth.litp5F : EncodedWidth.Statement .litp5F := of_litp rfl
theorem EncodedWidth.litp60 : EncodedWidth.Statement .litp60 := of_litp rfl
theorem EncodedWidth.litp61 : EncodedWidth.Statement .litp61 := of_litp rfl
theorem EncodedWidth.litp62 : EncodedWidth.Statement .litp62 := of_litp rfl
theorem EncodedWidth.litp63 : EncodedWidth.Statement .litp63 := of_litp rfl
theorem EncodedWidth.litp64 : EncodedWidth.Statement .litp64 := of_litp rfl
theorem EncodedWidth.litp65 : EncodedWidth.Statement .litp65 := of_litp rfl
theorem EncodedWidth.litp66 : EncodedWidth.Statement .litp66 := of_litp rfl
theorem EncodedWidth.litp67 : EncodedWidth.Statement .litp67 := of_litp rfl
theorem EncodedWidth.litp68 : EncodedWidth.Statement .litp68 := of_litp rfl
theorem EncodedWidth.litp69 : EncodedWidth.Statement .litp69 := of_litp rfl
theorem EncodedWidth.litp6A : EncodedWidth.Statement .litp6A := of_litp rfl
theorem EncodedWidth.litp6B : EncodedWidth.Statement .litp6B := of_litp rfl
theorem EncodedWidth.litp6C : EncodedWidth.Statement .litp6C := of_litp rfl
theorem EncodedWidth.litp6D : EncodedWidth.Statement .litp6D := of_litp rfl
theorem EncodedWidth.litp6E : EncodedWidth.Statement .litp6E := of_litp rfl
theorem EncodedWidth.litp6F : EncodedWidth.Statement .litp6F := of_litp rfl
theorem EncodedWidth.litp70 : EncodedWidth.Statement .litp70 := of_litp rfl
theorem EncodedWidth.litp71 : EncodedWidth.Statement .litp71 := of_litp rfl
theorem EncodedWidth.litp72 : EncodedWidth.Statement .litp72 := of_litp rfl
theorem EncodedWidth.litp73 : EncodedWidth.Statement .litp73 := of_litp rfl
theorem EncodedWidth.litp74 : EncodedWidth.Statement .litp74 := of_litp rfl
theorem EncodedWidth.litp75 : EncodedWidth.Statement .litp75 := of_litp rfl
theorem EncodedWidth.litp76 : EncodedWidth.Statement .litp76 := of_litp rfl
theorem EncodedWidth.litp77 : EncodedWidth.Statement .litp77 := of_litp rfl
theorem EncodedWidth.litp78 : EncodedWidth.Statement .litp78 := of_litp rfl
theorem EncodedWidth.litp79 : EncodedWidth.Statement .litp79 := of_litp rfl
theorem EncodedWidth.litp7A : EncodedWidth.Statement .litp7A := of_litp rfl
theorem EncodedWidth.litp7B : EncodedWidth.Statement .litp7B := of_litp rfl
theorem EncodedWidth.litp7C : EncodedWidth.Statement .litp7C := of_litp rfl
theorem EncodedWidth.litp7D : EncodedWidth.Statement .litp7D := of_litp rfl
theorem EncodedWidth.litp7E : EncodedWidth.Statement .litp7E := of_litp rfl
theorem EncodedWidth.litp7F : EncodedWidth.Statement .litp7F := of_litp rfl
theorem EncodedWidth.litp80 : EncodedWidth.Statement .litp80 := of_litp rfl
theorem EncodedWidth.litp81 : EncodedWidth.Statement .litp81 := of_litp rfl
theorem EncodedWidth.litp82 : EncodedWidth.Statement .litp82 := of_litp rfl
theorem EncodedWidth.litp83 : EncodedWidth.Statement .litp83 := of_litp rfl
theorem EncodedWidth.litp84 : EncodedWidth.Statement .litp84 := of_litp rfl
theorem EncodedWidth.litp85 : EncodedWidth.Statement .litp85 := of_litp rfl
theorem EncodedWidth.litp86 : EncodedWidth.Statement .litp86 := of_litp rfl
theorem EncodedWidth.litp87 : EncodedWidth.Statement .litp87 := of_litp rfl
theorem EncodedWidth.litp88 : EncodedWidth.Statement .litp88 := of_litp rfl
theorem EncodedWidth.litp89 : EncodedWidth.Statement .litp89 := of_litp rfl
theorem EncodedWidth.litp8A : EncodedWidth.Statement .litp8A := of_litp rfl
theorem EncodedWidth.litp8B : EncodedWidth.Statement .litp8B := of_litp rfl
theorem EncodedWidth.litp8C : EncodedWidth.Statement .litp8C := of_litp rfl
theorem EncodedWidth.litp8D : EncodedWidth.Statement .litp8D := of_litp rfl
theorem EncodedWidth.litp8E : EncodedWidth.Statement .litp8E := of_litp rfl
theorem EncodedWidth.litp8F : EncodedWidth.Statement .litp8F := of_litp rfl
theorem EncodedWidth.litp90 : EncodedWidth.Statement .litp90 := of_litp rfl
theorem EncodedWidth.litp91 : EncodedWidth.Statement .litp91 := of_litp rfl
theorem EncodedWidth.litp92 : EncodedWidth.Statement .litp92 := of_litp rfl
theorem EncodedWidth.litp93 : EncodedWidth.Statement .litp93 := of_litp rfl
theorem EncodedWidth.litp94 : EncodedWidth.Statement .litp94 := of_litp rfl
theorem EncodedWidth.litp95 : EncodedWidth.Statement .litp95 := of_litp rfl
theorem EncodedWidth.litp96 : EncodedWidth.Statement .litp96 := of_litp rfl
theorem EncodedWidth.litp97 : EncodedWidth.Statement .litp97 := of_litp rfl
theorem EncodedWidth.litp98 : EncodedWidth.Statement .litp98 := of_litp rfl
theorem EncodedWidth.litp99 : EncodedWidth.Statement .litp99 := of_litp rfl
theorem EncodedWidth.litp9A : EncodedWidth.Statement .litp9A := of_litp rfl
theorem EncodedWidth.litp9B : EncodedWidth.Statement .litp9B := of_litp rfl
theorem EncodedWidth.litp9C : EncodedWidth.Statement .litp9C := of_litp rfl
theorem EncodedWidth.litp9D : EncodedWidth.Statement .litp9D := of_litp rfl
theorem EncodedWidth.litp9E : EncodedWidth.Statement .litp9E := of_litp rfl
theorem EncodedWidth.litp9F : EncodedWidth.Statement .litp9F := of_litp rfl
theorem EncodedWidth.litpA0 : EncodedWidth.Statement .litpA0 := of_litp rfl
theorem EncodedWidth.litpA1 : EncodedWidth.Statement .litpA1 := of_litp rfl
theorem EncodedWidth.litpA2 : EncodedWidth.Statement .litpA2 := of_litp rfl
theorem EncodedWidth.litpA3 : EncodedWidth.Statement .litpA3 := of_litp rfl
theorem EncodedWidth.litpA4 : EncodedWidth.Statement .litpA4 := of_litp rfl
theorem EncodedWidth.litpA5 : EncodedWidth.Statement .litpA5 := of_litp rfl
theorem EncodedWidth.litpA6 : EncodedWidth.Statement .litpA6 := of_litp rfl
theorem EncodedWidth.litpA7 : EncodedWidth.Statement .litpA7 := of_litp rfl
theorem EncodedWidth.litpA8 : EncodedWidth.Statement .litpA8 := of_litp rfl
theorem EncodedWidth.litpA9 : EncodedWidth.Statement .litpA9 := of_litp rfl
theorem EncodedWidth.litpAA : EncodedWidth.Statement .litpAA := of_litp rfl
theorem EncodedWidth.litpAB : EncodedWidth.Statement .litpAB := of_litp rfl
theorem EncodedWidth.litpAC : EncodedWidth.Statement .litpAC := of_litp rfl
theorem EncodedWidth.litpAD : EncodedWidth.Statement .litpAD := of_litp rfl
theorem EncodedWidth.litpAE : EncodedWidth.Statement .litpAE := of_litp rfl
theorem EncodedWidth.litpAF : EncodedWidth.Statement .litpAF := of_litp rfl
theorem EncodedWidth.litpB0 : EncodedWidth.Statement .litpB0 := of_litp rfl
theorem EncodedWidth.litpB1 : EncodedWidth.Statement .litpB1 := of_litp rfl
theorem EncodedWidth.litpB2 : EncodedWidth.Statement .litpB2 := of_litp rfl
theorem EncodedWidth.litpB3 : EncodedWidth.Statement .litpB3 := of_litp rfl
theorem EncodedWidth.litpB4 : EncodedWidth.Statement .litpB4 := of_litp rfl
theorem EncodedWidth.litpB5 : EncodedWidth.Statement .litpB5 := of_litp rfl
theorem EncodedWidth.litpB6 : EncodedWidth.Statement .litpB6 := of_litp rfl
theorem EncodedWidth.litpB7 : EncodedWidth.Statement .litpB7 := of_litp rfl
theorem EncodedWidth.litpB8 : EncodedWidth.Statement .litpB8 := of_litp rfl
theorem EncodedWidth.litpB9 : EncodedWidth.Statement .litpB9 := of_litp rfl
theorem EncodedWidth.litpBA : EncodedWidth.Statement .litpBA := of_litp rfl
theorem EncodedWidth.litpBB : EncodedWidth.Statement .litpBB := of_litp rfl
theorem EncodedWidth.litpBC : EncodedWidth.Statement .litpBC := of_litp rfl
theorem EncodedWidth.litpBD : EncodedWidth.Statement .litpBD := of_litp rfl
theorem EncodedWidth.litpBE : EncodedWidth.Statement .litpBE := of_litp rfl
theorem EncodedWidth.litpBF : EncodedWidth.Statement .litpBF := of_litp rfl
theorem EncodedWidth.litpC0 : EncodedWidth.Statement .litpC0 := of_litp rfl
theorem EncodedWidth.litpC1 : EncodedWidth.Statement .litpC1 := of_litp rfl
theorem EncodedWidth.litpC2 : EncodedWidth.Statement .litpC2 := of_litp rfl
theorem EncodedWidth.litpC3 : EncodedWidth.Statement .litpC3 := of_litp rfl
theorem EncodedWidth.litpC4 : EncodedWidth.Statement .litpC4 := of_litp rfl
theorem EncodedWidth.litpC5 : EncodedWidth.Statement .litpC5 := of_litp rfl
theorem EncodedWidth.litpC6 : EncodedWidth.Statement .litpC6 := of_litp rfl
theorem EncodedWidth.litpC7 : EncodedWidth.Statement .litpC7 := of_litp rfl
theorem EncodedWidth.litpC8 : EncodedWidth.Statement .litpC8 := of_litp rfl
theorem EncodedWidth.litpC9 : EncodedWidth.Statement .litpC9 := of_litp rfl
theorem EncodedWidth.litpCA : EncodedWidth.Statement .litpCA := of_litp rfl
theorem EncodedWidth.litpCB : EncodedWidth.Statement .litpCB := of_litp rfl
theorem EncodedWidth.litpCC : EncodedWidth.Statement .litpCC := of_litp rfl
theorem EncodedWidth.litpCD : EncodedWidth.Statement .litpCD := of_litp rfl
theorem EncodedWidth.litpCE : EncodedWidth.Statement .litpCE := of_litp rfl
theorem EncodedWidth.litpCF : EncodedWidth.Statement .litpCF := of_litp rfl
theorem EncodedWidth.litpD0 : EncodedWidth.Statement .litpD0 := of_litp rfl
theorem EncodedWidth.litpD1 : EncodedWidth.Statement .litpD1 := of_litp rfl
theorem EncodedWidth.litpD2 : EncodedWidth.Statement .litpD2 := of_litp rfl
theorem EncodedWidth.litpD3 : EncodedWidth.Statement .litpD3 := of_litp rfl
theorem EncodedWidth.litpD4 : EncodedWidth.Statement .litpD4 := of_litp rfl
theorem EncodedWidth.litpD5 : EncodedWidth.Statement .litpD5 := of_litp rfl
theorem EncodedWidth.litpD6 : EncodedWidth.Statement .litpD6 := of_litp rfl
theorem EncodedWidth.litpD7 : EncodedWidth.Statement .litpD7 := of_litp rfl
theorem EncodedWidth.litpD8 : EncodedWidth.Statement .litpD8 := of_litp rfl
theorem EncodedWidth.litpD9 : EncodedWidth.Statement .litpD9 := of_litp rfl
theorem EncodedWidth.litpDA : EncodedWidth.Statement .litpDA := of_litp rfl
theorem EncodedWidth.litpDB : EncodedWidth.Statement .litpDB := of_litp rfl
theorem EncodedWidth.litpDC : EncodedWidth.Statement .litpDC := of_litp rfl
theorem EncodedWidth.litpDD : EncodedWidth.Statement .litpDD := of_litp rfl
theorem EncodedWidth.litpDE : EncodedWidth.Statement .litpDE := of_litp rfl
theorem EncodedWidth.litpDF : EncodedWidth.Statement .litpDF := of_litp rfl
theorem EncodedWidth.litpE0 : EncodedWidth.Statement .litpE0 := of_litp rfl
theorem EncodedWidth.litpE1 : EncodedWidth.Statement .litpE1 := of_litp rfl
theorem EncodedWidth.litpE2 : EncodedWidth.Statement .litpE2 := of_litp rfl
theorem EncodedWidth.litpE3 : EncodedWidth.Statement .litpE3 := of_litp rfl
theorem EncodedWidth.litpE4 : EncodedWidth.Statement .litpE4 := of_litp rfl
theorem EncodedWidth.litpE5 : EncodedWidth.Statement .litpE5 := of_litp rfl
theorem EncodedWidth.litpE6 : EncodedWidth.Statement .litpE6 := of_litp rfl
theorem EncodedWidth.litpE7 : EncodedWidth.Statement .litpE7 := of_litp rfl
theorem EncodedWidth.litpE8 : EncodedWidth.Statement .litpE8 := of_litp rfl
theorem EncodedWidth.litpE9 : EncodedWidth.Statement .litpE9 := of_litp rfl
theorem EncodedWidth.litpEA : EncodedWidth.Statement .litpEA := of_litp rfl
theorem EncodedWidth.litpEB : EncodedWidth.Statement .litpEB := of_litp rfl
theorem EncodedWidth.litpEC : EncodedWidth.Statement .litpEC := of_litp rfl
theorem EncodedWidth.litpED : EncodedWidth.Statement .litpED := of_litp rfl
theorem EncodedWidth.litpEE : EncodedWidth.Statement .litpEE := of_litp rfl
theorem EncodedWidth.litpEF : EncodedWidth.Statement .litpEF := of_litp rfl
theorem EncodedWidth.litpF0 : EncodedWidth.Statement .litpF0 := of_litp rfl
theorem EncodedWidth.litpF1 : EncodedWidth.Statement .litpF1 := of_litp rfl
theorem EncodedWidth.litpF2 : EncodedWidth.Statement .litpF2 := of_litp rfl
theorem EncodedWidth.litpF3 : EncodedWidth.Statement .litpF3 := of_litp rfl
theorem EncodedWidth.litpF4 : EncodedWidth.Statement .litpF4 := of_litp rfl
theorem EncodedWidth.litpF5 : EncodedWidth.Statement .litpF5 := of_litp rfl
theorem EncodedWidth.litpF6 : EncodedWidth.Statement .litpF6 := of_litp rfl
theorem EncodedWidth.litpF7 : EncodedWidth.Statement .litpF7 := of_litp rfl
theorem EncodedWidth.litpF8 : EncodedWidth.Statement .litpF8 := of_litp rfl
theorem EncodedWidth.litpF9 : EncodedWidth.Statement .litpF9 := of_litp rfl
theorem EncodedWidth.litpFA : EncodedWidth.Statement .litpFA := of_litp rfl
theorem EncodedWidth.litpFB : EncodedWidth.Statement .litpFB := of_litp rfl
theorem EncodedWidth.litpFC : EncodedWidth.Statement .litpFC := of_litp rfl
theorem EncodedWidth.litpFD : EncodedWidth.Statement .litpFD := of_litp rfl
theorem EncodedWidth.litpFE : EncodedWidth.Statement .litpFE := of_litp rfl
theorem EncodedWidth.litpFF : EncodedWidth.Statement .litpFF := of_litp rfl
theorem EncodedWidth.offs00 : EncodedWidth.Statement .offs00 := of_offs rfl
theorem EncodedWidth.offs01 : EncodedWidth.Statement .offs01 := of_offs rfl
theorem EncodedWidth.offs02 : EncodedWidth.Statement .offs02 := of_offs rfl
theorem EncodedWidth.offs03 : EncodedWidth.Statement .offs03 := of_offs rfl
theorem EncodedWidth.offs04 : EncodedWidth.Statement .offs04 := of_offs rfl
theorem EncodedWidth.offs05 : EncodedWidth.Statement .offs05 := of_offs rfl
theorem EncodedWidth.offs06 : EncodedWidth.Statement .offs06 := of_offs rfl
theorem EncodedWidth.offs07 : EncodedWidth.Statement .offs07 := of_offs rfl
theorem EncodedWidth.offs08 : EncodedWidth.Statement .offs08 := of_offs rfl
theorem EncodedWidth.offs09 : EncodedWidth.Statement .offs09 := of_offs rfl
theorem EncodedWidth.offs0A : EncodedWidth.Statement .offs0A := of_offs rfl
theorem EncodedWidth.offs0B : EncodedWidth.Statement .offs0B := of_offs rfl
theorem EncodedWidth.offs0C : EncodedWidth.Statement .offs0C := of_offs rfl
theorem EncodedWidth.offs0D : EncodedWidth.Statement .offs0D := of_offs rfl
theorem EncodedWidth.offs0E : EncodedWidth.Statement .offs0E := of_offs rfl
theorem EncodedWidth.offs0F : EncodedWidth.Statement .offs0F := of_offs rfl
theorem EncodedWidth.offs10 : EncodedWidth.Statement .offs10 := of_offs rfl
theorem EncodedWidth.offs11 : EncodedWidth.Statement .offs11 := of_offs rfl
theorem EncodedWidth.offs12 : EncodedWidth.Statement .offs12 := of_offs rfl
theorem EncodedWidth.offs13 : EncodedWidth.Statement .offs13 := of_offs rfl
theorem EncodedWidth.offs14 : EncodedWidth.Statement .offs14 := of_offs rfl
theorem EncodedWidth.offs15 : EncodedWidth.Statement .offs15 := of_offs rfl
theorem EncodedWidth.offs16 : EncodedWidth.Statement .offs16 := of_offs rfl
theorem EncodedWidth.offs17 : EncodedWidth.Statement .offs17 := of_offs rfl
theorem EncodedWidth.offs18 : EncodedWidth.Statement .offs18 := of_offs rfl
theorem EncodedWidth.offs19 : EncodedWidth.Statement .offs19 := of_offs rfl
theorem EncodedWidth.offs1A : EncodedWidth.Statement .offs1A := of_offs rfl
theorem EncodedWidth.offs1B : EncodedWidth.Statement .offs1B := of_offs rfl
theorem EncodedWidth.offs1C : EncodedWidth.Statement .offs1C := of_offs rfl
theorem EncodedWidth.offs1D : EncodedWidth.Statement .offs1D := of_offs rfl
theorem EncodedWidth.offs1E : EncodedWidth.Statement .offs1E := of_offs rfl
theorem EncodedWidth.offs1F : EncodedWidth.Statement .offs1F := of_offs rfl
theorem EncodedWidth.offs20 : EncodedWidth.Statement .offs20 := of_offs rfl
theorem EncodedWidth.offs21 : EncodedWidth.Statement .offs21 := of_offs rfl
theorem EncodedWidth.offs22 : EncodedWidth.Statement .offs22 := of_offs rfl
theorem EncodedWidth.offs23 : EncodedWidth.Statement .offs23 := of_offs rfl
theorem EncodedWidth.offs24 : EncodedWidth.Statement .offs24 := of_offs rfl
theorem EncodedWidth.offs25 : EncodedWidth.Statement .offs25 := of_offs rfl
theorem EncodedWidth.offs26 : EncodedWidth.Statement .offs26 := of_offs rfl
theorem EncodedWidth.offs27 : EncodedWidth.Statement .offs27 := of_offs rfl
theorem EncodedWidth.offs28 : EncodedWidth.Statement .offs28 := of_offs rfl
theorem EncodedWidth.offs29 : EncodedWidth.Statement .offs29 := of_offs rfl
theorem EncodedWidth.offs2A : EncodedWidth.Statement .offs2A := of_offs rfl
theorem EncodedWidth.offs2B : EncodedWidth.Statement .offs2B := of_offs rfl
theorem EncodedWidth.offs2C : EncodedWidth.Statement .offs2C := of_offs rfl
theorem EncodedWidth.offs2D : EncodedWidth.Statement .offs2D := of_offs rfl
theorem EncodedWidth.offs2E : EncodedWidth.Statement .offs2E := of_offs rfl
theorem EncodedWidth.offs2F : EncodedWidth.Statement .offs2F := of_offs rfl
theorem EncodedWidth.offs30 : EncodedWidth.Statement .offs30 := of_offs rfl
theorem EncodedWidth.offs31 : EncodedWidth.Statement .offs31 := of_offs rfl
theorem EncodedWidth.offs32 : EncodedWidth.Statement .offs32 := of_offs rfl
theorem EncodedWidth.offs33 : EncodedWidth.Statement .offs33 := of_offs rfl
theorem EncodedWidth.offs34 : EncodedWidth.Statement .offs34 := of_offs rfl
theorem EncodedWidth.offs35 : EncodedWidth.Statement .offs35 := of_offs rfl
theorem EncodedWidth.offs36 : EncodedWidth.Statement .offs36 := of_offs rfl
theorem EncodedWidth.offs37 : EncodedWidth.Statement .offs37 := of_offs rfl
theorem EncodedWidth.offs38 : EncodedWidth.Statement .offs38 := of_offs rfl
theorem EncodedWidth.offs39 : EncodedWidth.Statement .offs39 := of_offs rfl
theorem EncodedWidth.offs3A : EncodedWidth.Statement .offs3A := of_offs rfl
theorem EncodedWidth.offs3B : EncodedWidth.Statement .offs3B := of_offs rfl
theorem EncodedWidth.offs3C : EncodedWidth.Statement .offs3C := of_offs rfl
theorem EncodedWidth.offs3D : EncodedWidth.Statement .offs3D := of_offs rfl
theorem EncodedWidth.offs3E : EncodedWidth.Statement .offs3E := of_offs rfl
theorem EncodedWidth.offs3F : EncodedWidth.Statement .offs3F := of_offs rfl

end Sys2Proof.Laws
end

