-- ==== Sys2Proof/Machine/Pseudocode.lean ====
section
/-!
DEFINITION. The spec's own pseudocode of one step, rule by rule: bits are peeked and scanned in the accumulator after the
`refill` that brought them, never ahead of it. The machine decodes a whole token first and then runs it (log 8); that the
two agree is a statement of the certificate.
-/

namespace Sys2Proof.Machine.Pseudo

/-- `scan(Bits, Code, n)` with `peek` on the accumulator; no match raises `BadData` (31_rom_tables.md R71). -/
def scan : List Rom.Code → State → Res Nat
  | [], s => raise .badData s
  | e :: rest, s => do
    let v ← peek e.bits s
    if v = e.code then .ok 0
    else do
      let i ← scan rest s
      .ok (i + 1)

/-- `LIT8()` (43_tokens.md R101). -/
def lit8 (s : State) : Res State := do
  let b ← peek 8 s
  let s ← consume 8 s
  emit (BitVec.ofNat 8 b) s

/-- `LITP()` (43_tokens.md R102). -/
def litp (s : State) : Res State := do
  let c ← scan Rom.chTable s
  let s ← consume (Rom.chBits c) s
  emit (BitVec.ofNat 8 c) s

/-- `lengthPart()`, the length and the state (43_tokens.md R103). -/
def lengthPart (s : State) : Res (Nat × State) := do
  let i ← scan Rom.lenCodes s
  let s ← consume (Rom.lenBits i) s
  let extra ← peek (Rom.exLenBits i) s
  let s ← consume (Rom.exLenBits i) s
  .ok (lengthOf i extra, s)

/-- `offsetPrefix()` (43_tokens.md R105). -/
def offsetPrefix (s : State) : Res (Nat × State) := do
  let s ← refill 14 s
  let j ← scan Rom.offsTable s
  let s ← consume (Rom.offsBits j) s
  .ok (j, s)

/-- `COPY2(j)` (43_tokens.md R106). -/
def copy2 (j : Nat) (s : State) : Res State := do
  let low ← peek 2 s
  let s ← consume 2 s
  copyBytes 2 (j <<< 2 + low) s

/-- `COPY(length, j)` (43_tokens.md R107). -/
def copy (length j : Nat) (s : State) : Res State := do
  let w := s.dictSizeCode.toNat
  let low ← peek w s
  let s ← consume w s
  copyBytes length (j <<< w + low) s

/-- `decodeToken()` (43_tokens.md R100, R104). -/
def decodeToken (s : State) : Res State := do
  let s ← refill 16 s
  let flag ← peek 1 s
  let s ← consume 1 s
  if flag = 0 then
    if s.literalModeFlag = 0 then lit8 s else litp s
  else do
    let (length, s) ← lengthPart s
    if length = 519 then .ok s.finished
    else do
      let (j, s) ← offsetPrefix s
      if length = 2 then copy2 j s else copy length j s

/-- `step()` (44_fsm.md R125). -/
def step (s : State) : Host.Outcome State Fault Refusal :=
  if s.outputPos = s.outputLen then .next s.finished else Res.outcome (decodeToken s)

end Sys2Proof.Machine.Pseudo
end

