-- ==== Sys2Proof/Safety.lean ====
section
/-!
DEFINITION. The terms claims are stated in: the invariant of a run (10_state.md R24), what a host must have provided, and
what "unchanged" means.
-/

namespace Sys2Proof.Machine

/-- The index of the most recent of `n` emitted bytes that lies at `DICT` address `p`, for a window of `size` bytes
(10_state.md R24 (c)). -/
def lastIndex (n size p : Nat) : Nat := n - 1 - (n - 1 - p) % size

/-- `err` is 0 exactly when `fsm` is not `Failed` (10_state.md R21). -/
abbrev State.statusInv (s : State) : Prop := s.fsm = .failed ↔ s.err ≠ .none

/-- The memories are in canonical form (the model's own). -/
abbrev State.memoryInv (s : State) : Prop := s.dict.wf ∧ s.out.wf ∧ s.input.wf

/-- The header registers hold legal values (10_state.md R19). -/
abbrev State.headerInv (s : State) : Prop := 4 ≤ s.dictSizeCode.toNat ∧ s.dictSizeCode.toNat ≤ 6

/-- The Bit Reader's part of 10_state.md R24 (e), (f). -/
abbrev State.readerInv (s : State) : Prop :=
  s.bitAccumulator.toNat < 2 ^ s.bitCount ∧ s.bitCount ≤ 23 ∧ s.inputBase + 2 ≤ s.inputPos ∧ s.inputPos ≤ s.inputLen

/-- The dictionary's part of 10_state.md R24 (a), (c), (f). That the emitted bytes of `OUT` hold values says with (c) that
the valid bytes of `DICT` do. -/
abbrev State.dictInv (s : State) : Prop :=
  s.outputPos ≤ s.outputLen ∧
  s.dictWritePos = s.outputPos % s.dictSize ∧
  s.dictFilledSize = min s.outputPos s.dictSize ∧
  (∀ m < s.outputPos, (s.out.read m).isSome) ∧
  (∀ p < s.dictFilledSize, s.dict.read p = s.out.read (lastIndex s.outputPos s.dictSize p))

/-- What holds at every step boundary: at all of them the status, the memories and "no token half done"; while a decode
runs, all of 10_state.md R24. -/
abbrev State.Inv (s : State) : Prop :=
  s.statusInv ∧ s.memoryInv ∧ s.pendingLength = none ∧
  (s.fsm = .readToken → s.headerInv ∧ s.readerInv ∧ s.dictInv)

/-- The host placed a byte at every address of `IN` that is still to be fetched (70_reset_and_hazards.md R173). -/
abbrev State.inputFilled (s : State) : Prop :=
  ∀ a < s.inputLen, s.inputPos ≤ a → (s.input.read a).isSome

/-- The bits held and the bits of the bytes not fetched yet: what a `refill` can reach. -/
abbrev State.bitsLeft (s : State) : Nat := s.bitCount + 8 * (s.inputLen - s.inputPos)

/-- The run is over (44_fsm.md R133). -/
abbrev State.terminal (s : State) : Prop := s.fsm = .done ∨ s.fsm = .failed

/-- Everything that no token and no fault may write: header registers, launch parameters, `IN`, and the model's own host
moves and free-value counter (10_state.md R18, R19, R22; 20_memory.md R31). -/
abbrev SameConfig (s t : State) : Prop :=
  t.literalModeFlag = s.literalModeFlag ∧ t.dictSizeCode = s.dictSizeCode ∧ t.inputBase = s.inputBase ∧
  t.inputLen = s.inputLen ∧ t.outputLen = s.outputLen ∧ t.input = s.input ∧ t.hostMoves = s.hostMoves ∧
  t.freeIndex = s.freeIndex

/-- The dictionary and output registers, and every byte of `DICT` and `OUT`. -/
def SameBytes (s t : State) : Prop :=
  t.outputPos = s.outputPos ∧ t.dictWritePos = s.dictWritePos ∧ t.dictFilledSize = s.dictFilledSize ∧
  (∀ a, t.dict.read a = s.dict.read a) ∧ (∀ a, t.out.read a = s.out.read a)

/-- The status registers, or what a fault leaves in them (60_exceptions.md R147). -/
def SameStatusOrFault (s t : State) : Prop :=
  (t.fsm = s.fsm ∧ t.err = s.err ∧ t.pendingLength = s.pendingLength) ∨
  (t.fsm = .failed ∧ t.err ≠ .none ∧ t.pendingLength = none)

/-- What a copy instruction asks for: the index of its length part, its length, its offset index, its raw distance. -/
structure CopyOperands where
  index    : Nat
  length   : Nat
  j        : Nat
  distance : Nat
  deriving DecidableEq, Repr

/-- The operands of `COPY2` (43_tokens.md R106) and of `COPY` (R107), `none` for every other instruction. -/
def copyOperands (c : Ctx) (ins : Instr) : Option CopyOperands :=
  match ins.shape with
  | .copy2 j low => some ⟨0, 2, j.toNat, distance 2 j.toNat low.toNat⟩
  | .copy i extra j low =>
      some ⟨i, lengthOf i extra, j.toNat, distance c.dictSizeCode.toNat j.toNat low.toNat⟩
  | _ => none

/-- Enough bits for a copy to reach its bytes: the length part is held, and 14 bits after it can be had
(43_tokens.md R103, R105). -/
abbrev State.copyReachesBytes (s : State) (o : CopyOperands) : Prop :=
  lengthPartWidth o.index ≤ s.bitCount ∧ lengthPartWidth o.index + Config.offsetLookahead ≤ s.bitsLeft

/-- `OUT[n .. n+L-1]` of `t` is the sliding-window copy at raw distance `D`, for a window of `size` bytes: each byte is
the one emitted `(D mod filled) + 1` bytes before it, `filled` being how many bytes the window holds at that moment
(42_dictionary.md R91, R94 (d)). -/
def CopiedWindow (t : State) (n L D size : Nat) : Prop :=
  ∀ k < L, (t.out.read (n + k)).isSome ∧ t.out.read (n + k) = t.out.read (n + k - 1 - D % min (n + k) size)

/-- Two states that agree on everything but `DICT` bytes that no rule may read: those at or above `dictFilledSize`
(10_state.md R24 (d), 70_reset_and_hazards.md R172). -/
def SameButStale (s t : State) : Prop :=
  t = { s with dict := t.dict } ∧ ∀ p < s.dictFilledSize, t.dict.read p = s.dict.read p

/-- Two outcomes of the same kind, for the same reason, with next states related by `R`. -/
def OutcomeRel (R : State → State → Prop) (o p : Host.Outcome State Fault Refusal) : Prop :=
  match o, p with
  | .next s, .next t => R s t
  | .fault a, .fault b => a = b
  | .refused a, .refused b => a = b
  | _, _ => False

end Sys2Proof.Machine
end

