-- ==== Sys2Proof/Certificates/Slice0/Obligations.lean ====
section
/-!
DEFINITION. The statements for the provers, in the order of OBLIGATIONS.json. Each docstring names the rules it formalises.
-/

open Sys2Proof Sys2Proof.Machine

/-! ### Power-on, launch, the host -/

/-- 70_reset_and_hazards.md R170, 44_fsm.md R129: after power-on `fsm` is `Idle` (0), `err` is 0, no `DICT` byte has a value,
and no step exists. (That a byte of `DICT` has no value, and that `step` answers a refusal, are the model's choices, log 3 and
log 13.) -/
def Obligations.PowerOnIsIdleWithoutError : Prop :=
  State.reset.fsm = .idle ∧ State.reset.fsm.code = 0 ∧ State.reset.err = .none ∧ State.reset.err.code = 0 ∧
  (∀ a, State.reset.dict.read a = none) ∧ step State.reset = .refused .noStep

/-- 44_fsm.md R122: fewer than 4 bytes from `inputBase` fail the launch with `IncompleteInput`; the registers it names take
the values it names, and the result is the same whatever `IN` holds: no byte of it is read. -/
def Obligations.ShortInputFailsTheLaunch : Prop :=
  ∀ (s : State) (base len outLen : Nat), s.fsm ≠ .readToken → (if base ≤ len then len - base else 0) < 4 →
    ∃ t, launch base len outLen s = .next t ∧
      t.err = .incompleteInput ∧ t.fsm = .failed ∧
      t.bitAccumulator = 0 ∧ t.bitCount = 0 ∧ t.outputPos = 0 ∧ t.dictWritePos = 0 ∧ t.dictFilledSize = 0 ∧
      t.inputPos = base ∧ t.dict = s.dict ∧ t.out = s.out ∧ t.input = s.input ∧
      ∀ m, launch base len outLen { s with input := m } = .next { t with input := m }

/-- 44_fsm.md R123: with 4 bytes or more, a literal-mode byte other than 0 or 1, or a dictionary-size byte outside 4..6,
fails the launch with `BadData`, the other registers as in R122's failure. -/
def Obligations.IllegalHeaderFailsTheLaunch : Prop :=
  ∀ (s : State) (base len outLen : Nat) (f c : Byte), s.fsm ≠ .readToken → base + 4 ≤ len →
    s.input.read base = some f → s.input.read (base + 1) = some c →
    (1 < f.toNat ∨ c.toNat < 4 ∨ 6 < c.toNat) →
    ∃ t, launch base len outLen s = .next t ∧
      t.err = .badData ∧ t.fsm = .failed ∧
      t.bitAccumulator = 0 ∧ t.bitCount = 0 ∧ t.outputPos = 0 ∧ t.dictWritePos = 0 ∧ t.dictFilledSize = 0 ∧
      t.inputPos = base ∧ t.dict = s.dict ∧ t.out = s.out ∧ t.input = s.input

/-- 44_fsm.md R124: a legal header starts the decode with the values the rule lists, `DICT` and `OUT` not cleared. -/
def Obligations.LegalHeaderStartsTheDecode : Prop :=
  ∀ (s : State) (base len outLen : Nat) (f c : Byte), s.fsm ≠ .readToken → base + 4 ≤ len →
    s.input.read base = some f → s.input.read (base + 1) = some c →
    f.toNat ≤ 1 → 4 ≤ c.toNat → c.toNat ≤ 6 →
    ∃ t, launch base len outLen s = .next t ∧
      t.literalModeFlag.toNat = f.toNat ∧ t.dictSizeCode.toNat = c.toNat ∧ t.dictSize = 64 * 2 ^ c.toNat ∧
      t.inputPos = base + 2 ∧ t.bitAccumulator = 0 ∧ t.bitCount = 0 ∧ t.outputPos = 0 ∧
      t.dictWritePos = 0 ∧ t.dictFilledSize = 0 ∧ t.err = .none ∧ t.fsm = .readToken ∧
      t.inputBase = base ∧ t.inputLen = len ∧ t.outputLen = outLen ∧
      t.dict = s.dict ∧ t.out = s.out ∧ t.input = s.input ∧ t.bitCursor = 0

/-- 44_fsm.md R121, U10: while a decode runs no launch has a meaning (that `launch` answers a refusal is the model's form of it). -/
def Obligations.LaunchWhileRunningIsRefused : Prop :=
  ∀ (s : State) (base len outLen : Nat), s.fsm = .readToken →
    launch base len outLen s = .refused .launchWhileRunning

/-- 44_fsm.md R121, 70_reset_and_hazards.md R171: a launch depends on nothing a previous decode left in the registers: two
machines with the same memories (and the same model-own host moves and free-value counter) launch to the same state. -/
def Obligations.LaunchForgetsThePreviousDecode : Prop :=
  ∀ (s t : State) (base len outLen : Nat), s.fsm ≠ .readToken → t.fsm ≠ .readToken →
    t.input = s.input → t.dict = s.dict → t.out = s.out → t.hostMoves = s.hostMoves → t.freeIndex = s.freeIndex →
    launch base len outLen t = launch base len outLen s

/-- 44_fsm.md R129, R132: while no decode runs, the step is the host's next move and nothing else, and without one there is
none; while a decode runs, the host touches nothing. (The list of moves is the model's own, log 12; that `step` answers the
refusal `noStep` where no step exists is the model's choice, log 13.) -/
def Obligations.HostMovesLandOnlyBetweenDecodes : Prop :=
  (∀ s : State, s.fsm ≠ .readToken → s.hostMoves = [] → step s = .refused .noStep) ∧
  (∀ (s : State) (base len outLen : Nat) (rest : List HostMove), s.fsm ≠ .readToken →
    s.hostMoves = .launch base len outLen :: rest →
    step s = launch base len outLen { s with hostMoves := rest }) ∧
  (∀ (s : State) (base : Nat) (bytes : List Byte) (rest : List HostMove), s.fsm ≠ .readToken →
    s.hostMoves = .fillIn base bytes :: rest →
    ∃ t, step s = .next t ∧ t = { s with input := t.input, hostMoves := rest } ∧
      (∀ k (h : k < bytes.length), t.input.read (base + k) = some bytes[k]) ∧
      (∀ a, a < base ∨ base + bytes.length ≤ a → t.input.read a = s.input.read a)) ∧
  (∀ (s : State) (base : Nat) (bytes : List Byte) (rest : List HostMove), s.fsm ≠ .readToken →
    s.hostMoves = .fillOut base bytes :: rest →
    ∃ t, step s = .next t ∧ t = { s with out := t.out, hostMoves := rest } ∧
      (∀ k (h : k < bytes.length), t.out.read (base + k) = some bytes[k]) ∧
      (∀ a, a < base ∨ base + bytes.length ≤ a → t.out.read a = s.out.read a)) ∧
  (∀ s t : State, s.fsm = .readToken → step s = .next t → SameConfig s t)

/-- 44_fsm.md R132, R133: in a terminal state, and in no other, the host reads `fsm`, `err`, `outputPos` and the bytes
`OUT[0 .. outputPos-1]`. -/
def Obligations.ResultIsReadableExactlyWhenOver : Prop :=
  ∀ s : State,
    (s.terminal → ∃ bytes, readResult s = some (s.fsm, s.err, s.outputPos, bytes) ∧
      bytes.length = s.outputPos ∧ ∀ k < s.outputPos, bytes[k]? = some (s.out.read k)) ∧
    (¬ s.terminal → readResult s = none)

/-! ### The step -/

/-- 44_fsm.md R126: a full output ends the run at the start of the step, before any bit is fetched; nothing but `fsm` changes. -/
def Obligations.FullOutputEndsTheRun : Prop :=
  ∀ s : State, s.fsm = .readToken → s.pendingLength = none → s.outputPos = s.outputLen →
    step s = .next { s with fsm := .done }

/-- 43_tokens.md R100, 44_fsm.md R125: a step is the refill of 16 bits and then the instruction the bits spell; a refill that
ends the step is the step. In the middle of a copy (the model's own place, log 9) the step is the offset row the bits spell
and then the rest of that copy. -/
def Obligations.StepRunsTheDecodedInstruction : Prop :=
  (∀ (s r : State) (i : Instr), s.fsm = .readToken → s.pendingLength = none → s.outputPos ≠ s.outputLen →
    refill 16 s = .ok r → decode r.ctx r.window = .ok i → step s = exec i r) ∧
  (∀ (s : State) (o : Host.Outcome State Fault Refusal), s.fsm = .readToken → s.pendingLength = none →
    s.outputPos ≠ s.outputLen → refill 16 s = .error o → step s = o) ∧
  (∀ (s t : State) (i : Instr) (j : BitVec 6) (length : Nat), s.fsm = .readToken → s.pendingLength = some length →
    decode s.offsetCtx s.window = .ok i → i.shape = .offs j → exec i s = .next t → t.fsm = .readToken →
    step s = finishCopy length j.toNat t)

/-- 44_fsm.md R125, 43_tokens.md R100 to R107, 31_rom_tables.md R71: in every state of the invariant the machine's step, which
decodes a whole token and then runs it, is the spec's pseudocode, which peeks and scans as it goes. -/
def Obligations.StepIsTheSpecsPseudocode : Prop :=
  ∀ s : State, s.Inv → s.fsm = .readToken → step s = Pseudo.step s

/-- 10_state.md R24, R26: the invariant holds after power-on. -/
def Obligations.InvariantHoldsAfterPowerOn : Prop := State.reset.Inv

/-- 10_state.md R24 (with R21 and the model's canonical memories): every step, a token, an end, a fault or a host move, keeps
the invariant, from every state that meets it. -/
def Obligations.StepKeepsTheInvariant : Prop :=
  ∀ s t : State, s.Inv → step s = .next t → t.Inv

/-- 44_fsm.md R130, 41_bit_reader.md R83, 42_dictionary.md R92, 20_memory.md R31 to R33: a running decode whose input the host
provided always has a next state: no step asks for bits that are not held, for an address that does not exist or for a
byte that was not written. -/
def Obligations.RunningDecodeNeverSticks : Prop :=
  ∀ s : State, s.Inv → s.inputFilled → s.fsm = .readToken → ∃ t, step s = .next t ∧ t.inputFilled

/-- 44_fsm.md R130: every run ends, within `outputLen - outputPos + 1` steps. -/
def Obligations.EveryRunEnds : Prop :=
  ∀ s : State, s.Inv → s.inputFilled → s.fsm = .readToken →
    ∃ k ≤ s.outputLen - s.outputPos + 1, ∃ t, core.run k s = .next t ∧ t.terminal

/-- 44_fsm.md R120: the transitions out of `ReadToken`. A token that completes emits at least a byte; `Done` emits nothing and
has no error; `Failed` has one. -/
def Obligations.StepTakesOneOfTheTransitions : Prop :=
  ∀ s t : State, s.Inv → s.fsm = .readToken → step s = .next t →
    (t.fsm = .readToken ∧ t.err = .none ∧ s.outputPos < t.outputPos) ∨
    (t.fsm = .done ∧ t.err = .none ∧ SameBytes s t) ∨
    (t.fsm = .failed ∧ t.err ≠ .none)

/-- 10_state.md R14, 30_encoding.md R60: a token that does not fault moves the bit cursor by exactly its own width. -/
def Obligations.CursorAdvancesByTokenWidth : Prop :=
  ∀ (s r t : State) (i : Instr), s.fsm = .readToken → s.pendingLength = none → s.outputPos ≠ s.outputLen →
    refill 16 s = .ok r → decode r.ctx r.window = .ok i → step s = .next t → t.fsm ≠ .failed →
    t.bitCursor = s.bitCursor + tokenWidth s.ctx i

/-- 44_fsm.md R131, 70_reset_and_hazards.md R172, 10_state.md R24 (d): bytes of `DICT` that nothing has written since the launch
never matter: machines that differ only in them step alike, and differ only in them afterwards. -/
def Obligations.StaleDictionaryNeverMatters : Prop :=
  ∀ s t : State, s.Inv → SameButStale s t → OutcomeRel SameButStale (step s) (step t)

/-- 60_exceptions.md R141 (b), 41_bit_reader.md R80 (c): a token for which 16 bits cannot be had is `IncompleteInput`, whatever
it would have needed; the bytes that exist have been fetched and stay fetched; nothing is emitted. -/
def Obligations.TokenNeedsSixteenBits : Prop :=
  ∀ s : State, s.Inv → s.inputFilled → s.fsm = .readToken → s.outputPos < s.outputLen → s.bitsLeft < 16 →
    ∃ t, step s = .next t ∧ t.fsm = .failed ∧ t.err = .incompleteInput ∧ t.inputPos = s.inputLen ∧
      t.bitCount = s.bitsLeft ∧ SameBytes s t ∧ SameConfig s t

/-! ### The Bit Reader -/

/-- 41_bit_reader.md R80: where `N` bits can be had, `refill(N)` fetches `ceil((N - bitCount) / 8)` bytes and no more (none where
`N` bits are held), appends them above the bits held, in stream order, and changes nothing else. Where they cannot, it raises
`IncompleteInput` with every byte that exists fetched the same way, and changes nothing else. -/
def Obligations.RefillFetchesJustEnough : Prop :=
  ∀ (s : State) (N : Nat), N = 14 ∨ N = 16 → s.readerInv → s.inputFilled →
    (N ≤ s.bitsLeft →
      ∃ t, refill N s = .ok t ∧
        t = { s with bitAccumulator := t.bitAccumulator, bitCount := t.bitCount, inputPos := t.inputPos } ∧
        t.inputPos = s.inputPos + (N - s.bitCount + 7) / 8 ∧ t.bitCount = s.bitCount + 8 * ((N - s.bitCount + 7) / 8) ∧
        t.bitAccumulator.toNat = s.window % 2 ^ t.bitCount ∧ N ≤ t.bitCount ∧ t.bitCount ≤ 23 ∧
        t.bitCursor = s.bitCursor ∧ (N ≤ s.bitCount → t = s)) ∧
    (s.bitsLeft < N →
      ∃ t, refill N s = .error (.next t) ∧ t.fsm = .failed ∧ t.err = .incompleteInput ∧
        t.inputPos = s.inputLen ∧ t.bitCount = s.bitsLeft ∧ t.bitAccumulator.toNat = s.window % 2 ^ t.bitCount ∧
        SameBytes s t ∧ SameConfig s t ∧ t.bitCursor = s.bitCursor)

/-- 41_bit_reader.md R82: `consume(k)` shifts `bitAccumulator` right by `k`, lowers `bitCount` by `k`, moves the cursor by `k`
and changes nothing else; `consume(0)` changes nothing. -/
def Obligations.ConsumeDropsTheLowBits : Prop :=
  ∀ (s : State) (k : Nat), k ≤ s.bitCount →
    ∃ t, consume k s = .ok t ∧ t = { s with bitAccumulator := t.bitAccumulator, bitCount := t.bitCount } ∧
      t.bitAccumulator.toNat = s.bitAccumulator.toNat / 2 ^ k ∧ t.bitCount + k = s.bitCount ∧
      t.bitCursor = s.bitCursor + k ∧ (k = 0 → t = s)

/-- 41_bit_reader.md R81, R83: `peek` and `consume` beyond the bits held are refused; within them `peek` answers the low bits. -/
def Obligations.BitsBeyondTheReaderAreRefused : Prop :=
  ∀ (s : State) (k : Nat),
    (s.bitCount < k → consume k s = .error (.refused .bitsNotAvailable) ∧
      peek k s = .error (.refused .bitsNotAvailable)) ∧
    (k ≤ s.bitCount → peek k s = .ok (s.bitAccumulator.toNat % 2 ^ k))

/-! ### Faults -/

/-- 60_exceptions.md R147, R144: raising a fault ends the step in a next state, records its kind and `Failed`, and leaves every
other register and memory of the spec (nothing is said of the model's own `pendingLength`, log 9). -/
def Obligations.RaiseRecordsOnlyTheKind : Prop :=
  ∀ (e : ErrKind) (s : State), ∃ t, (raise e s : Res State) = .error (.next t) ∧ t.err = e ∧ t.fsm = .failed ∧
    t = { s with err := t.err, fsm := t.fsm, pendingLength := t.pendingLength }

/-! ### The sliding dictionary -/

/-- 42_dictionary.md R90: with room in the output, `emit(b)` writes `OUT` and `DICT` together and moves the three registers as
the rule says, the write position modulo `dictSize`. -/
def Obligations.EmitWritesBothMemories : Prop :=
  ∀ (s : State) (b : Byte), s.outputPos < s.outputLen → s.dictWritePos < 4096 →
    ∃ t, emit b s = .ok t ∧
      t = { s with
        out := t.out, dict := t.dict, outputPos := s.outputPos + 1,
        dictWritePos := (s.dictWritePos + 1) % (64 * 2 ^ s.dictSizeCode.toNat),
        dictFilledSize := t.dictFilledSize } ∧
      t.dictFilledSize =
        (if s.dictFilledSize < 64 * 2 ^ s.dictSizeCode.toNat then s.dictFilledSize + 1 else s.dictFilledSize) ∧
      (∀ a, t.out.read a = if a = s.outputPos then some b else s.out.read a) ∧
      (∀ a, t.dict.read a = if a = s.dictWritePos then some b else s.dict.read a)

/-- 42_dictionary.md R91, R92: on a dictionary that is not empty, `readBack(D)` reads an address below `dictFilledSize` and
answers the byte emitted `(D mod dictFilledSize) + 1` bytes ago. -/
def Obligations.ReadBackFindsTheByteAtDistance : Prop :=
  ∀ (s : State) (D : Nat), s.Inv → s.fsm = .readToken → 0 < s.dictFilledSize →
    s.readBackPos D < s.dictFilledSize ∧
    ∃ b, readBack D s = .ok b ∧ s.out.read (s.outputPos - 1 - D % s.dictFilledSize) = some b

/-- 42_dictionary.md R93: `readBack` on an empty dictionary raises `BadData`, before the RAM is touched. -/
def Obligations.ReadBackOfNothingIsBadData : Prop :=
  ∀ (s : State) (D : Nat), s.dictFilledSize = 0 → readBack D s = .error (.next (s.raised .badData))

/-- 42_dictionary.md R94 (c), 95_test_vectors.md S6: a copy at raw distance 0 repeats the last byte, reading bytes it has itself
written. -/
def Obligations.CopyAtDistanceZeroRepeatsTheLastByte : Prop :=
  ∀ (s : State) (L : Nat), s.Inv → s.fsm = .readToken → 0 < s.dictFilledSize → s.outputPos + L ≤ s.outputLen →
    ∃ t, copyBytes L 0 s = .ok t ∧ t.outputPos = s.outputPos + L ∧
      ∀ k < L, t.out.read (s.outputPos + k) = s.out.read (s.outputPos - 1)

/-! ### The tokens: what each does where it completes -/

/-- 43_tokens.md R101: `LIT8` emits its byte and moves the cursor by 9 bits; nothing else changes. -/
def Obligations.FixedLiteralEmitsItsByte : Prop :=
  ∀ (s : State) (byte : Byte), 9 ≤ s.bitCount → s.outputPos < s.outputLen → s.dictWritePos < 4096 →
    exec (.lit8 byte) s = .next { s with
      bitAccumulator := s.bitAccumulator >>> 9
      bitCount := s.bitCount - 9
      out := s.out.write s.outputPos byte
      dict := s.dict.write s.dictWritePos byte
      outputPos := s.outputPos + 1
      dictWritePos := (s.dictWritePos + 1) % s.dictSize
      dictFilledSize := if s.dictFilledSize < s.dictSize then s.dictFilledSize + 1 else s.dictFilledSize }

/-- 43_tokens.md R102: each of the 256 rows `LITP.00` to `LITP.FF` (the instructions of shape `litp c`, one for each `c`) emits
its index `c` and moves the cursor by `1 + ChBits[c]` bits; nothing else changes. -/
def Obligations.PrefixCodedLiteralEmitsItsIndex : Prop :=
  ∀ (ins : Instr) (c : Byte) (s : State), ins.shape = .litp c →
    1 + Rom.chBits c.toNat ≤ s.bitCount → s.outputPos < s.outputLen → s.dictWritePos < 4096 →
    exec ins s = .next { s with
      bitAccumulator := s.bitAccumulator >>> (1 + Rom.chBits c.toNat)
      bitCount := s.bitCount - (1 + Rom.chBits c.toNat)
      out := s.out.write s.outputPos c
      dict := s.dict.write s.dictWritePos c
      outputPos := s.outputPos + 1
      dictWritePos := (s.dictWritePos + 1) % s.dictSize
      dictFilledSize := if s.dictFilledSize < s.dictSize then s.dictFilledSize + 1 else s.dictFilledSize }

/-- 43_tokens.md R104: `END` consumes its 16 bits and goes to `Done`; nothing else changes, whatever the output, the
dictionary and the rest of the input are. -/
def Obligations.EndGoesToDone : Prop :=
  ∀ s : State, 16 ≤ s.bitCount →
    exec .endOfStream s = .next { s with
      bitAccumulator := s.bitAccumulator >>> 16
      bitCount := s.bitCount - 16
      fsm := .done }

/-- 43_tokens.md R105: each of the 64 rows `OFFS.00` to `OFFS.3F` (the instructions of shape `offs j`) brings 14 bits and
consumes its code; only the reader's registers change. -/
def Obligations.OffsetPrefixConsumesItsCode : Prop :=
  ∀ (ins : Instr) (j : BitVec 6) (s : State), ins.shape = .offs j → s.readerInv → s.inputFilled → 14 ≤ s.bitsLeft →
    ∃ t, exec ins s = .next t ∧
      t = { s with bitAccumulator := t.bitAccumulator, bitCount := t.bitCount, inputPos := t.inputPos } ∧
      t.bitCursor = s.bitCursor + Rom.offsBits j.toNat ∧
      t.bitCount = s.bitCount + 8 * ((14 - s.bitCount + 7) / 8) - Rom.offsBits j.toNat ∧
      t.bitAccumulator.toNat = s.window / 2 ^ Rom.offsBits j.toNat % 2 ^ t.bitCount

/-- 43_tokens.md R105, 60_exceptions.md R141 (c): where 14 bits cannot be had, an offset row is `IncompleteInput`; the bytes that
exist have been fetched, nothing else changes. -/
def Obligations.OffsetPrefixNeedsFourteenBits : Prop :=
  ∀ (ins : Instr) (j : BitVec 6) (s : State), ins.shape = .offs j → s.readerInv → s.inputFilled → s.bitsLeft < 14 →
    ∃ t, exec ins s = .next t ∧ t.fsm = .failed ∧ t.err = .incompleteInput ∧ t.inputPos = s.inputLen ∧
      t.bitCount = s.bitsLeft ∧ SameBytes s t ∧ SameConfig s t

/-- 43_tokens.md R106, 42_dictionary.md R94: `COPY2` at raw distance `(j << 2) + low`, on a dictionary that is not empty and
with room for two bytes: two bytes of the sliding window are appended to `OUT` and `DICT`, and the cursor moves by the
token's width. -/
def Obligations.ShortCopyCopiesTwoBytes : Prop :=
  ∀ (s : State) (j : BitVec 6) (low : BitVec 2), s.Inv → s.fsm = .readToken → s.inputFilled →
    4 ≤ s.bitCount → 18 ≤ s.bitsLeft → 0 < s.dictFilledSize → s.outputPos + 2 ≤ s.outputLen →
    ∃ t, exec (.copy2 j low) s = .next t ∧
      t.outputPos = s.outputPos + 2 ∧ t.dictWritePos = (s.dictWritePos + 2) % s.dictSize ∧
      t.dictFilledSize = min (s.dictFilledSize + 2) s.dictSize ∧
      CopiedWindow t s.outputPos 2 (j.toNat * 4 + low.toNat) s.dictSize ∧
      (∀ k < 2, t.dict.read ((s.dictWritePos + k) % s.dictSize) = t.out.read (s.outputPos + k)) ∧
      t.fsm = .readToken ∧ t.err = s.err ∧ t.pendingLength = none ∧ SameConfig s t ∧
      t.bitCursor = s.bitCursor + (6 + Rom.offsBits j.toNat)

/-- 43_tokens.md R107, 42_dictionary.md R94: each of the 15 rows `COPY.L1` to `COPY.L15` (the instructions of shape `copy`), at
raw distance `(j << dictSizeCode) + low`: `LenBase[i] + extra` bytes of the sliding window are appended to `OUT` and `DICT`,
and the cursor moves by the token's width. -/
def Obligations.CopyCopiesItsLength : Prop :=
  ∀ (ins : Instr) (i extra : Nat) (j low : BitVec 6) (s : State), ins.shape = .copy i extra j low →
    wellFormed s.ctx ins → s.Inv → s.fsm = .readToken → s.inputFilled →
    1 + Rom.lenBits i + Rom.exLenBits i ≤ s.bitCount → 1 + Rom.lenBits i + Rom.exLenBits i + 14 ≤ s.bitsLeft →
    0 < s.dictFilledSize → s.outputPos + (Rom.lenBase i + extra) ≤ s.outputLen →
    ∃ t, exec ins s = .next t ∧
      t.outputPos = s.outputPos + (Rom.lenBase i + extra) ∧
      t.dictWritePos = (s.dictWritePos + (Rom.lenBase i + extra)) % s.dictSize ∧
      t.dictFilledSize = min (s.dictFilledSize + (Rom.lenBase i + extra)) s.dictSize ∧
      CopiedWindow t s.outputPos (Rom.lenBase i + extra)
        (j.toNat * 2 ^ s.dictSizeCode.toNat + low.toNat) s.dictSize ∧
      (∀ k < Rom.lenBase i + extra,
        t.dict.read ((s.dictWritePos + k) % s.dictSize) = t.out.read (s.outputPos + k)) ∧
      t.fsm = .readToken ∧ t.err = s.err ∧ t.pendingLength = none ∧ SameConfig s t ∧
      t.bitCursor = s.bitCursor +
        (1 + Rom.lenBits i + Rom.exLenBits i + Rom.offsBits j.toNat + s.dictSizeCode.toNat)

/-! ### The tokens, from the bits: what a step does with them -/

/-- 43_tokens.md R101: a token whose flag bit is 0 in literal mode 0 takes the next 8 bits as its byte, emits it and moves the
cursor by 9; it never faults. -/
def Obligations.ModeZeroLiteralTokenEmitsEightBits : Prop :=
  ∀ s r : State, s.Inv → s.fsm = .readToken → s.outputPos ≠ s.outputLen → refill 16 s = .ok r →
    s.literalModeFlag = 0 → r.bitAccumulator.toNat % 2 = 0 →
    ∃ byte : Byte, byte.toNat = r.bitAccumulator.toNat / 2 % 256 ∧
      ∃ t, step s = .next t ∧ t.bitCursor = s.bitCursor + 9 ∧
        t = { r with
          bitAccumulator := r.bitAccumulator >>> 9
          bitCount := r.bitCount - 9
          out := r.out.write r.outputPos byte
          dict := r.dict.write r.dictWritePos byte
          outputPos := r.outputPos + 1
          dictWritePos := (r.dictWritePos + 1) % r.dictSize
          dictFilledSize := if r.dictFilledSize < r.dictSize then r.dictFilledSize + 1 else r.dictFilledSize }

/-- 43_tokens.md R102: a token whose flag bit is 0 in literal mode 1 is scanned in the Literal table; the byte emitted is the
table index `c`, the cursor moves by `1 + ChBits[c]`, and some entry always matches. -/
def Obligations.ModeOneLiteralTokenEmitsItsIndex : Prop :=
  ∀ s r : State, s.Inv → s.fsm = .readToken → s.outputPos ≠ s.outputLen → refill 16 s = .ok r →
    s.literalModeFlag = 1 → r.bitAccumulator.toNat % 2 = 0 →
    ∃ c < 256, Rom.scanCh (r.bitAccumulator.toNat / 2) = some c ∧ 4 ≤ Rom.chBits c ∧ Rom.chBits c ≤ 13 ∧
      ∃ t, step s = .next t ∧ t.bitCursor = s.bitCursor + (1 + Rom.chBits c) ∧
        t = { r with
          bitAccumulator := r.bitAccumulator >>> (1 + Rom.chBits c)
          bitCount := r.bitCount - (1 + Rom.chBits c)
          out := r.out.write r.outputPos (BitVec.ofNat 8 c)
          dict := r.dict.write r.dictWritePos (BitVec.ofNat 8 c)
          outputPos := r.outputPos + 1
          dictWritePos := (r.dictWritePos + 1) % r.dictSize
          dictFilledSize := if r.dictFilledSize < r.dictSize then r.dictFilledSize + 1 else r.dictFilledSize }

/-- 43_tokens.md R104: where the 16 bits of a token are 0xFF01 the step goes to `Done` with `err` and everything but the reader
unchanged, whatever follows them and whatever the dictionary and the output hold; with a full output the step goes to
`Done` without reading them. -/
def Obligations.SentinelEndsTheRun : Prop :=
  ∀ s : State, s.Inv → s.fsm = .readToken →
    (∀ r : State, s.outputPos ≠ s.outputLen → refill 16 s = .ok r → r.bitAccumulator.toNat % 2 ^ 16 = 0xFF01 →
      step s = .next { r with
        bitAccumulator := r.bitAccumulator >>> 16
        bitCount := r.bitCount - 16
        fsm := .done }) ∧
    (s.outputPos = s.outputLen → step s = .next { s with fsm := .done })

/-! ### Where the copies fault -/

/-- 60_exceptions.md R143, 42_dictionary.md R94, D15: a copy longer than the room left emits the bytes that fit, then raises
`BufferTooSmall`. -/
def Obligations.OverlongCopyIsBufferTooSmall : Prop :=
  ∀ (ins : Instr) (o : CopyOperands) (s : State), copyOperands s.ctx ins = some o → wellFormed s.ctx ins →
    s.Inv → s.fsm = .readToken → s.inputFilled → s.copyReachesBytes o → 0 < s.dictFilledSize →
    s.outputPos < s.outputLen → s.outputLen < s.outputPos + o.length →
    ∃ t, exec ins s = .next t ∧ t.fsm = .failed ∧ t.err = .bufferTooSmall ∧ t.outputPos = s.outputLen ∧
      CopiedWindow t s.outputPos (s.outputLen - s.outputPos) o.distance s.dictSize ∧ SameConfig s t ∧
      t.bitCursor = s.bitCursor + tokenWidth s.ctx ins

/-- 42_dictionary.md R93, 60_exceptions.md R142 (c): a copy on an empty dictionary is `BadData`; nothing is emitted, its bits
are consumed. -/
def Obligations.CopyFromNothingIsBadData : Prop :=
  ∀ (ins : Instr) (o : CopyOperands) (s : State), copyOperands s.ctx ins = some o → wellFormed s.ctx ins →
    s.Inv → s.fsm = .readToken → s.inputFilled → s.copyReachesBytes o → s.dictFilledSize = 0 →
    s.outputPos < s.outputLen →
    ∃ t, exec ins s = .next t ∧ t.fsm = .failed ∧ t.err = .badData ∧ SameBytes s t ∧ SameConfig s t ∧
      t.bitCursor = s.bitCursor + tokenWidth s.ctx ins

/-- 60_exceptions.md R141 (c), R146: a copy whose second lookahead cannot be had is `IncompleteInput`, with its length part
consumed and every byte of the input fetched, whatever the dictionary and the output hold. -/
def Obligations.CopyNeedsFourteenBits : Prop :=
  ∀ (ins : Instr) (o : CopyOperands) (s : State), copyOperands s.ctx ins = some o → s.readerInv → s.inputFilled →
    lengthPartWidth o.index ≤ s.bitCount → s.bitsLeft < lengthPartWidth o.index + 14 →
    ∃ t, exec ins s = .next t ∧ t.fsm = .failed ∧ t.err = .incompleteInput ∧ t.inputPos = s.inputLen ∧
      t.bitCount + lengthPartWidth o.index = s.bitsLeft ∧ SameBytes s t ∧ SameConfig s t

/-! ### Frames -/

/-- Frame of the literals (43_tokens.md R101, R102): a literal that has a next state leaves everything but the reader's two
registers, the three output and dictionary registers, the `OUT` byte at `outputPos` and the `DICT` byte at
`dictWritePos`. -/
def Obligations.LiteralFrame : Prop :=
  ∀ (ins : Instr) (s t : State), (∃ b, ins.shape = .lit8 b ∨ ins.shape = .litp b) → exec ins s = .next t →
    SameConfig s t ∧ t.fsm = s.fsm ∧ t.err = s.err ∧ t.pendingLength = s.pendingLength ∧ t.inputPos = s.inputPos ∧
    (∀ a, a ≠ s.outputPos → t.out.read a = s.out.read a) ∧
    (∀ a, a ≠ s.dictWritePos → t.dict.read a = s.dict.read a)

/-- Frame of the copies (43_tokens.md R106, R107): a copy that has a next state, completed or faulted, leaves the configuration,
every `OUT` byte outside `outputPos .. outputPos + length - 1`, every `DICT` byte outside the addresses
`(dictWritePos + k) mod dictSize` for `k < length`, and the status unless it faults. -/
def Obligations.CopyFrame : Prop :=
  ∀ (ins : Instr) (o : CopyOperands) (s t : State), copyOperands s.ctx ins = some o → exec ins s = .next t →
    SameConfig s t ∧ SameStatusOrFault s t ∧
    (∀ a, a < s.outputPos ∨ s.outputPos + o.length ≤ a → t.out.read a = s.out.read a) ∧
    (s.dictWritePos < s.dictSize →
      ∀ a, (∀ k < o.length, a ≠ (s.dictWritePos + k) % s.dictSize) → t.dict.read a = s.dict.read a)

/-- Frame of the tokens that store nothing (43_tokens.md R104, R105): `END` changes the reader's two registers and `fsm`; an
offset row the reader's three registers, and the status only by a fault. -/
def Obligations.NonStoringFrame : Prop :=
  ∀ s t : State,
    (exec .endOfStream s = .next t → SameConfig s t ∧ SameBytes s t ∧ t.inputPos = s.inputPos ∧ t.err = s.err ∧
      t.pendingLength = s.pendingLength) ∧
    (∀ (ins : Instr) (j : BitVec 6), ins.shape = .offs j → exec ins s = .next t →
      SameConfig s t ∧ SameBytes s t ∧ SameStatusOrFault s t)

/-! ### Promises of the whole instruction set -/

/-- 10_state.md R18, R19, R22, 20_memory.md R31, 44_fsm.md R134: no token writes the header registers, the launch parameters or
`IN`. -/
def Obligations.NoTokenWritesTheConfiguration : Prop :=
  ∀ (ins : Instr) (s t : State), exec ins s = .next t → SameConfig s t

/-- 20_memory.md R32: `OUT` is written in ascending order, each address at most once, and only below the new `outputPos`: no token
changes a byte already emitted or one beyond what it emits. -/
def Obligations.EmittedOutputIsNeverRewritten : Prop :=
  ∀ (ins : Instr) (s t : State), exec ins s = .next t →
    s.outputPos ≤ t.outputPos ∧ ∀ a, a < s.outputPos ∨ t.outputPos ≤ a → t.out.read a = s.out.read a

/-- 42_dictionary.md R96, R90, R92: no token touches the idle part of the RAM, and `dictWritePos` stays below `dictSize`. -/
def Obligations.IdleDictionaryIsNeverWritten : Prop :=
  ∀ (ins : Instr) (s t : State), s.dictWritePos < s.dictSize → exec ins s = .next t →
    t.dictWritePos < t.dictSize ∧ ∀ a, s.dictSize ≤ a → t.dict.read a = s.dict.read a

/-! ### Encoding -/

/-- 30_encoding.md R51 to R59, R64: decoding the encoding of a well-formed instruction gives it back, with every operand at every
value, whatever bits follow. -/
def Obligations.DecodeOfEncodeIsTheInstruction : Prop :=
  ∀ (c : Ctx) (i : Instr) (rest : Nat), wellFormed c i →
    decode c ((encode c i).value + 2 ^ (encode c i).width * rest) = .ok i

/-- 30_encoding.md R51 to R59: what the decoder answers is well formed, and the bits it was read from are its encoding. -/
def Obligations.DecodedBitsAreTheEncoding : Prop :=
  ∀ (c : Ctx) (T : Nat) (i : Instr), c.sizeLegal → decode c T = .ok i →
    wellFormed c i ∧ T % 2 ^ (encode c i).width = (encode c i).value

/-- 31_rom_tables.md R75 (b), 30_encoding.md R61 (b): every bit pattern decodes in every legal context: with this ROM no scan
ever fails. -/
def Obligations.EveryBitPatternDecodes : Prop :=
  ∀ (c : Ctx) (T : Nat), c.sizeLegal → ∃ i, decode c T = .ok i

/-- 31_rom_tables.md R75 (a), (b): whatever the accumulator holds, exactly one entry of each table applies. -/
def Obligations.ExactlyOneCodeApplies : Prop :=
  ∀ tab : List Rom.Code, tab = Rom.lenCodes ∨ tab = Rom.offsTable ∨ tab = Rom.chTable →
    ∀ acc : Nat, ∃! k : Nat, ∃ e : Rom.Code, tab[k]? = some e ∧ acc % 2 ^ e.bits = e.code

/-- 31_rom_tables.md R75 (d): each length 2..519 comes from exactly one length index and extra value. -/
def Obligations.EachLengthHasOneEncoding : Prop :=
  ∀ L, 2 ≤ L → L ≤ 519 → ∃! p : Nat × Nat, p.1 < 16 ∧ p.2 < 2 ^ Rom.exLenBits p.1 ∧ Rom.lenBase p.1 + p.2 = L

/-- 30_encoding.md R60: the width of a well-formed instruction's encoding lies in its format's range. -/
def Obligations.EncodedWidthIsInRange : Prop := ∀ i : Instr, Laws.EncodedWidth.Statement i

/-- 30_encoding.md R51, R62: for a token whose flag bit is 0, the literal mode alone chooses between the fixed 8-bit literal, which
is the next 8 bits, and a prefix-coded one. -/
def Obligations.LiteralModeChoosesTheFormat : Prop :=
  ∀ (c : Ctx) (T : Nat), c.atOffset = false → T % 2 = 0 →
    (c.literalModeFlag = 0 → decode c T = .ok (.lit8 (BitVec.ofNat 8 (T / 2)))) ∧
    (c.literalModeFlag = 1 → ∃ i b, decode c T = .ok i ∧ i.shape = .litp b)

/-- 30_encoding.md R63: the assembler's `COPY L, D` is a well-formed copy of `L` bytes at raw distance `D`, and it exists exactly
where the offset index is at most 63. -/
def Obligations.AssembledCopyMeansItsOperands : Prop :=
  ∀ (c : Ctx) (L D : Nat), c.sizeLegal → c.atOffset = false → 2 ≤ L → L ≤ 518 →
    (D < 64 * 2 ^ (if L = 2 then 2 else c.dictSizeCode.toNat) →
      ∃ i o, asmCopy c L D = some i ∧ wellFormed c i ∧ copyOperands c i = some o ∧ o.length = L ∧ o.distance = D) ∧
    (64 * 2 ^ (if L = 2 then 2 else c.dictSizeCode.toNat) ≤ D → asmCopy c L D = none)

/-- Words written out bit by bit from 30_encoding.md R52 to R57 and the examples of 43_tokens.md R101 to R107 (the code values are
the model's ROM, log 1) decode to the instructions they stand for. -/
def Obligations.WrittenOutWordsDecode : Prop :=
  decode ⟨0, 4, false⟩ 0b010000010 = .ok (.lit8 0x41) ∧
  decode ⟨1, 4, false⟩ 0b1100010 = .ok .litp41 ∧
  decode ⟨0, 4, false⟩ 0b01111011 = .ok (.copy2 0 1) ∧
  decode ⟨0, 4, false⟩ 0b0000111101 = .ok (.copyL3 0 0) ∧
  decode ⟨0, 5, false⟩ 0b000111101110001 = .ok (.copyL9 1 0 3) ∧
  decode ⟨0, 4, false⟩ 0b1111111100000001 = .ok .endOfStream ∧
  decode ⟨0, 4, true⟩ 0b11 = .ok .offs00
end

