-- ==== Sys2Proof/Tests/Slice0.lean ====
section
/-!
SUPPORT. The model's own tests. Expected values are the spec's: 95_test_vectors.md (S, B, T, K, V, P), the examples of the
rules, opcode_table.json, or written out by hand from an encoding. Then, for each statement with hypotheses, a witness.
-/

namespace Sys2Proof.Tests

set_option Elab.async false

open Sys2Proof.Machine

/-! ### WellFormed: each check refuses an ill-formed term -/

theorem test_wf_lit8_needs_mode_0 : wellFormed ⟨1, 4, false⟩ (.lit8 0x41) = false := by decide
theorem test_wf_litp_needs_mode_1 : wellFormed ⟨0, 4, false⟩ .litp41 = false := by decide
theorem test_wf_size_code_is_legal : wellFormed ⟨0, 3, false⟩ (.lit8 0x41) = false := by decide
theorem test_wf_low_fits_size_code : wellFormed ⟨0, 4, false⟩ (.copyL3 0 16) = false := by decide
theorem test_wf_no_copy_of_519 : wellFormed ⟨0, 4, false⟩ (.copyL15 255 0 0) = false := by decide
theorem test_wf_token_not_at_offset : wellFormed ⟨0, 4, true⟩ (.copy2 0 0) = false := by decide
theorem test_wf_copy_not_at_offset : wellFormed ⟨0, 4, true⟩ (.copyL1 0 0) = false := by decide
theorem test_wf_end_not_at_offset : wellFormed ⟨0, 4, true⟩ .endOfStream = false := by decide
theorem test_wf_offset_only_at_offset : wellFormed ⟨0, 4, false⟩ .offs00 = false := by decide
theorem test_wf_accepts_the_largest_low : wellFormed ⟨0, 4, false⟩ (.copyL15 254 63 15) = true := by decide

/-! ### Decoding -/

/-- The word decodes to the instruction, and so it does with ones above it. -/
def decodesTo (c : Ctx) (w : Nat) (i : Instr) : Bool :=
  let up := w + 2 ^ tokenWidth c i * 0x3FFF
  match decode c w, decode c up with
  | .ok a, .ok b => a == i && b == i
  | _, _ => false

/-- 43_tokens.md R101's example: `0, 1,0,0,0,0,0,1,0`. -/
theorem test_decode_LIT8 : decodesTo ⟨0, 4, false⟩ 0b010000010 (.lit8 0x41) = true := by decide +kernel
/-- 43_tokens.md R106's example: `1, 1,0,1, 1,1, 1,0`. -/
theorem test_decode_COPY2 : decodesTo ⟨0, 6, false⟩ 0b01111011 (.copy2 0 1) = true := by decide +kernel
/-- 30_encoding.md R55: 0xFF01. -/
theorem test_decode_END : decodesTo ⟨1, 5, false⟩ 0b1111111100000001 .endOfStream = true := by decide +kernel
/-- V2 of 95_test_vectors.md: `COPY 264, 4095` under code 6 takes 6 low bits. -/
theorem test_decode_COPY_six_low_bits :
    decodesTo ⟨0, 6, false⟩ (0b111111 * 2 ^ 24 + 1) (.copyL15 0 63 63) = true := by decide +kernel


/-- The `match` column of rows `LITP.00` to `LITP.FF` of opcode_table.json: flag 0, then the code of 31_rom_tables.md R74. -/
def literalWords : List (Nat × Instr) :=
  ([(0x920, .litp00), (0x1FC0, .litp01), (0xFC0, .litp02), (0x17C0, .litp03), (0x7C0, .litp04), (0x1BC0, .litp05), (0xBC0, .litp06), (0x13C0, .litp07)] : List (Nat × Instr)) ++
  ([(0x3C0, .litp08), (0x170, .litp09), (0xC4, .litp0A), (0x1DC0, .litp0B), (0xDC0, .litp0C), (0x44, .litp0D), (0x15C0, .litp0E), (0x5C0, .litp0F)] : List (Nat × Instr)) ++
  ([(0x19C0, .litp10), (0x9C0, .litp11), (0x11C0, .litp12), (0x1C0, .litp13), (0x1EC0, .litp14), (0xEC0, .litp15), (0x16C0, .litp16), (0x6C0, .litp17)] : List (Nat × Instr)) ++
  ([(0x1AC0, .litp18), (0xAC0, .litp19), (0x2480, .litp1A), (0x12C0, .litp1B), (0x2C0, .litp1C), (0x1CC0, .litp1D), (0xCC0, .litp1E), (0x14C0, .litp1F)] : List (Nat × Instr)) ++
  ([(0x1E, .litp20), (0x4A0, .litp21), (0x70, .litp22), (0x4C0, .litp23), (0xA0, .litp24), (0x18C0, .litp25), (0x720, .litp26), (0x1B0, .litp27)] : List (Nat × Instr)) ++
  ([(0x84, .litp28), (0x4, .litp29), (0xB0, .litp2A), (0x360, .litp2B), (0xF8, .litp2C), (0x52, .litp2D), (0x78, .litp2E), (0x130, .litp2F)] : List (Nat × Instr)) ++
  ([(0xB8, .litp30), (0x12, .litp31), (0x38, .litp32), (0xD8, .litp33), (0x58, .litp34), (0x98, .litp35), (0x30, .litp36), (0x18, .litp37)] : List (Nat × Instr)) ++
  ([(0xE8, .litp38), (0x1D0, .litp39), (0xD0, .litp3A), (0x8C0, .litp3B), (0x120, .litp3C), (0x68, .litp3D), (0x160, .litp3E), (0xE20, .litp3F)] : List (Nat × Instr)) ++
  ([(0x10C0, .litp40), (0x62, .litp41), (0xA8, .litp42), (0x22, .litp43), (0x42, .litp44), (0x2E, .litp45), (0x28, .litp46), (0x150, .litp47)] : List (Nat × Instr)) ++
  ([(0x50, .litp48), (0x2, .litp49), (0x620, .litp4A), (0x260, .litp4B), (0x7C, .litp4C), (0xC8, .litp4D), (0x3C, .litp4E), (0x5C, .litp4F)] : List (Nat × Instr)) ++
  ([(0x48, .litp50), (0xA20, .litp51), (0x1C, .litp52), (0x6C, .litp53), (0x2C, .litp54), (0x88, .litp55), (0x60, .litp56), (0x190, .litp57)] : List (Nat × Instr)) ++
  ([(0x3A0, .litp58), (0x1A0, .litp59), (0x220, .litp5A), (0x90, .litp5B), (0xC20, .litp5C), (0x2A0, .litp5D), (0xC0, .litp5E), (0x110, .litp5F)] : List (Nat × Instr)) ++
  ([(0x1F40, .litp60), (0xE, .litp61), (0x4C, .litp62), (0xC, .litp63), (0x74, .litp64), (0x36, .litp65), (0x34, .litp66), (0x54, .litp67)] : List (Nat × Instr)) ++
  ([(0x14, .litp68), (0x16, .litp69), (0x420, .litp6A), (0x8, .litp6B), (0x26, .litp6C), (0x64, .litp6D), (0x6, .litp6E), (0x3A, .litp6F)] : List (Nat × Instr)) ++
  ([(0x24, .litp70), (0x320, .litp71), (0x1A, .litp72), (0x2A, .litp73), (0xA, .litp74), (0x32, .litp75), (0x10, .litp76), (0xF0, .litp77)] : List (Nat × Instr)) ++
  ([(0x1E0, .litp78), (0xE0, .litp79), (0x520, .litp7A), (0x820, .litp7B), (0x20, .litp7C), (0xF40, .litp7D), (0x1740, .litp7E), (0x740, .litp7F)] : List (Nat × Instr)) ++
  ([(0x480, .litp80), (0x3880, .litp81), (0x1880, .litp82), (0x2880, .litp83), (0x880, .litp84), (0x3080, .litp85), (0x1080, .litp86), (0x2080, .litp87)] : List (Nat × Instr)) ++
  ([(0x80, .litp88), (0x3F00, .litp89), (0x1F00, .litp8A), (0x2F00, .litp8B), (0xF00, .litp8C), (0x3700, .litp8D), (0x1700, .litp8E), (0x2700, .litp8F)] : List (Nat × Instr)) ++
  ([(0x700, .litp90), (0x3B00, .litp91), (0x1B00, .litp92), (0x2B00, .litp93), (0xB00, .litp94), (0x3300, .litp95), (0x1300, .litp96), (0x2300, .litp97)] : List (Nat × Instr)) ++
  ([(0x300, .litp98), (0x3D00, .litp99), (0x1D00, .litp9A), (0x2D00, .litp9B), (0xD00, .litp9C), (0x3500, .litp9D), (0x1500, .litp9E), (0x2500, .litp9F)] : List (Nat × Instr)) ++
  ([(0x500, .litpA0), (0x3900, .litpA1), (0x1900, .litpA2), (0x2900, .litpA3), (0x900, .litpA4), (0x3100, .litpA5), (0x1100, .litpA6), (0x2100, .litpA7)] : List (Nat × Instr)) ++
  ([(0x100, .litpA8), (0x3E00, .litpA9), (0x1E00, .litpAA), (0x2E00, .litpAB), (0xE00, .litpAC), (0x3600, .litpAD), (0x1600, .litpAE), (0x2600, .litpAF)] : List (Nat × Instr)) ++
  ([(0x1B40, .litpB0), (0xB40, .litpB1), (0x1340, .litpB2), (0x340, .litpB3), (0x1D40, .litpB4), (0xD40, .litpB5), (0x1540, .litpB6), (0x540, .litpB7)] : List (Nat × Instr)) ++
  ([(0x1940, .litpB8), (0x940, .litpB9), (0x1140, .litpBA), (0x140, .litpBB), (0x1E40, .litpBC), (0xE40, .litpBD), (0x1640, .litpBE), (0x640, .litpBF)] : List (Nat × Instr)) ++
  ([(0x1A40, .litpC0), (0xA40, .litpC1), (0x1240, .litpC2), (0x240, .litpC3), (0x1C40, .litpC4), (0xC40, .litpC5), (0x1440, .litpC6), (0x440, .litpC7)] : List (Nat × Instr)) ++
  ([(0x1840, .litpC8), (0x840, .litpC9), (0x1040, .litpCA), (0x40, .litpCB), (0x1F80, .litpCC), (0xF80, .litpCD), (0x1780, .litpCE), (0x780, .litpCF)] : List (Nat × Instr)) ++
  ([(0x1B80, .litpD0), (0xB80, .litpD1), (0x1380, .litpD2), (0x380, .litpD3), (0x1D80, .litpD4), (0xD80, .litpD5), (0x1580, .litpD6), (0x580, .litpD7)] : List (Nat × Instr)) ++
  ([(0x1980, .litpD8), (0x980, .litpD9), (0x1180, .litpDA), (0x180, .litpDB), (0x1E80, .litpDC), (0xE80, .litpDD), (0x1680, .litpDE), (0x680, .litpDF)] : List (Nat × Instr)) ++
  ([(0x600, .litpE0), (0x1A80, .litpE1), (0x3A00, .litpE2), (0x1A00, .litpE3), (0x2A00, .litpE4), (0xA80, .litpE5), (0xA00, .litpE6), (0x3200, .litpE7)] : List (Nat × Instr)) ++
  ([(0x1200, .litpE8), (0x1280, .litpE9), (0x2200, .litpEA), (0x200, .litpEB), (0x3C00, .litpEC), (0x1C00, .litpED), (0x280, .litpEE), (0x2C00, .litpEF)] : List (Nat × Instr)) ++
  ([(0xC00, .litpF0), (0x3400, .litpF1), (0x1C80, .litpF2), (0xC80, .litpF3), (0x1480, .litpF4), (0x1400, .litpF5), (0x2400, .litpF6), (0x400, .litpF7)] : List (Nat × Instr)) ++
  ([(0x3800, .litpF8), (0x1800, .litpF9), (0x2800, .litpFA), (0x800, .litpFB), (0x3000, .litpFC), (0x1000, .litpFD), (0x2000, .litpFE), (0x0, .litpFF)] : List (Nat × Instr))

theorem test_every_LITP_row_decodes : literalWords.all (fun p => decodesTo ⟨1, 4, false⟩ p.1 p.2) = true := by decide +kernel

/-- The `match` column of rows `OFFS.00` to `OFFS.3F`: the code of 31_rom_tables.md R73. -/
def offsetWords : List (Nat × Instr) :=
  ([(0x3, .offs00), (0xD, .offs01), (0x5, .offs02), (0x19, .offs03), (0x9, .offs04), (0x11, .offs05), (0x1, .offs06), (0x3E, .offs07)] : List (Nat × Instr)) ++
  ([(0x1E, .offs08), (0x2E, .offs09), (0xE, .offs0A), (0x36, .offs0B), (0x16, .offs0C), (0x26, .offs0D), (0x6, .offs0E), (0x3A, .offs0F)] : List (Nat × Instr)) ++
  ([(0x1A, .offs10), (0x2A, .offs11), (0xA, .offs12), (0x32, .offs13), (0x12, .offs14), (0x22, .offs15), (0x42, .offs16), (0x2, .offs17)] : List (Nat × Instr)) ++
  ([(0x7C, .offs18), (0x3C, .offs19), (0x5C, .offs1A), (0x1C, .offs1B), (0x6C, .offs1C), (0x2C, .offs1D), (0x4C, .offs1E), (0xC, .offs1F)] : List (Nat × Instr)) ++
  ([(0x74, .offs20), (0x34, .offs21), (0x54, .offs22), (0x14, .offs23), (0x64, .offs24), (0x24, .offs25), (0x44, .offs26), (0x4, .offs27)] : List (Nat × Instr)) ++
  ([(0x78, .offs28), (0x38, .offs29), (0x58, .offs2A), (0x18, .offs2B), (0x68, .offs2C), (0x28, .offs2D), (0x48, .offs2E), (0x8, .offs2F)] : List (Nat × Instr)) ++
  ([(0xF0, .offs30), (0x70, .offs31), (0xB0, .offs32), (0x30, .offs33), (0xD0, .offs34), (0x50, .offs35), (0x90, .offs36), (0x10, .offs37)] : List (Nat × Instr)) ++
  ([(0xE0, .offs38), (0x60, .offs39), (0xA0, .offs3A), (0x20, .offs3B), (0xC0, .offs3C), (0x40, .offs3D), (0x80, .offs3E), (0x0, .offs3F)] : List (Nat × Instr))

theorem test_every_OFFS_row_decodes : offsetWords.all (fun p => decodesTo ⟨0, 4, true⟩ p.1 p.2) = true := by decide +kernel

/-- Rows `COPY.L1` to `COPY.L15`, written out from 30_encoding.md R54, R57 and R72: flag, length code, greatest extra
(254 for L15), offset code `1,0,1,1` (`j = 1`), low `1,0,0,1` (9) for dictionary-size code 4. Last bit leftmost. -/
def copyWords : List (Nat × Instr) :=
  ([(0b10011101111, .copyL1 1 9)] : List (Nat × Instr)) ++
  ([(0b100111010011, .copyL2 1 9)] : List (Nat × Instr)) ++
  ([(0b100111011101, .copyL3 1 9)] : List (Nat × Instr)) ++
  ([(0b1001110110101, .copyL4 1 9)] : List (Nat × Instr)) ++
  ([(0b1001110100101, .copyL5 1 9)] : List (Nat × Instr)) ++
  ([(0b1001110111001, .copyL6 1 9)] : List (Nat × Instr)) ++
  ([(0b10011101101001, .copyL7 1 9)] : List (Nat × Instr)) ++
  ([(0b100111011001001, .copyL8 1 1 9)] : List (Nat × Instr)) ++
  ([(0b1001110111110001, .copyL9 3 1 9)] : List (Nat × Instr)) ++
  ([(0b10011101111010001, .copyL10 7 1 9)] : List (Nat × Instr)) ++
  ([(0b1001110111111100001, .copyL11 15 1 9)] : List (Nat × Instr)) ++
  ([(0b10011101111110100001, .copyL12 31 1 9)] : List (Nat × Instr)) ++
  ([(0b100111011111111000001, .copyL13 63 1 9)] : List (Nat × Instr)) ++
  ([(0b10011101111111110000001, .copyL14 127 1 9)] : List (Nat × Instr)) ++
  ([(0b100111011111111000000001, .copyL15 254 1 9)] : List (Nat × Instr))

theorem test_every_COPY_row_decodes : copyWords.all (fun p => decodesTo ⟨0, 4, false⟩ p.1 p.2) = true := by decide +kernel

/-- 30_encoding.md R63 and P1: the image of `LIT 0x41; COPY 5, 0; END`. -/
theorem test_assemble_P1 :
    (assemble ⟨0, 4, false⟩ [.lit8 0x41, .copyL3 0 0, .endOfStream]).map BitVec.toNat =
      [0x00, 0x04, 0x82, 0x7A, 0x08, 0xF8, 0x07] := by decide +kernel
/-- P2. -/
theorem test_assemble_P2 :
    (assemble ⟨1, 6, false⟩ [.litp61, .litp62, .litp63, .copyL4 0 2, .litp20, .endOfStream]).map BitVec.toNat =
      [0x01, 0x06, 0x0E, 0x93, 0x51, 0x17, 0x7C, 0xC0, 0x3F] := by decide +kernel
theorem test_asm_copy : asmCopy ⟨0, 5, false⟩ 13 3 = some (.copyL9 1 0 3) := by decide +kernel
theorem test_asm_copy_too_far : asmCopy ⟨0, 4, false⟩ 2 256 = none := by decide +kernel

/-- A word of the table is read in its row's context. -/
theorem test_table_word_LITP20 : decodeTableWord 8 0x1E = some .litp20 := by decide +kernel
theorem test_table_word_LIT8 : decodeTableWord 8 0 = some (.lit8 0) := by decide +kernel
theorem test_table_word_OFFS3E : decodeTableWord 8 0x80 = some .offs3E := by decide +kernel
theorem test_table_word_END : decodeTableWord 16 0xFF01 = some .endOfStream := by decide +kernel

/-! ### ROM scans: T1 to T6 -/

theorem test_scan_T1 : (Rom.scanLen 0x7FFF, Rom.scanOffs 0x7FFF, Rom.scanCh 0x7FFF) = (some 1, some 0, some 0x20) := by decide +kernel
theorem test_scan_T2 : (Rom.scanLen 0, Rom.scanOffs 0, Rom.scanCh 0) = (some 15, some 63, some 0xFF) := by decide +kernel
theorem test_scan_T3 : (Rom.scanLen 5, Rom.scanOffs 5, Rom.scanCh 5) = (some 0, some 2, some 0x74) := by decide +kernel
theorem test_scan_T6 : (Rom.scanLen 0x1230, Rom.scanOffs 0x1230, Rom.scanCh 0x1230) = (some 11, some 51, some 0x56) := by decide +kernel

/-! ### States -/

def image (bytes : List Nat) : Memory := Memory.writeBytes [] 0 (bytes.map (BitVec.ofNat 8))

/-- The state a launch on the image leaves (44_fsm.md R124). -/
def running (img : List Nat) (outLen : Nat) : State :=
  (({ State.reset with input := image img }).withParams 0 img.length outLen).launched
    (BitVec.ofNat 8 (img.getD 0 0)) (BitVec.ofNat 8 (img.getD 1 0))

/-- A running state with the given reader registers and emitted bytes (fewer than `dictSize`). -/
def midRun (img : List Nat) (outLen acc bc ip : Nat) (done : List Nat) : State :=
  { running img outLen with
    bitAccumulator := BitVec.ofNat 32 acc
    bitCount := bc
    inputPos := ip
    outputPos := done.length
    dictWritePos := done.length
    dictFilledSize := done.length
    out := image done
    dict := image done }

/-- `fsm`, `err`, and the registers in the order of 95_test_vectors.md: acc, bc, ip, op, wp, fs. -/
def regs (o : Host.Outcome State Fault Refusal) : Option (Fsm × ErrKind × List Nat) :=
  match o with
  | .next s => some (s.fsm, s.err,
      [s.bitAccumulator.toNat, s.bitCount, s.inputPos, s.outputPos, s.dictWritePos, s.dictFilledSize])
  | _ => none

def outBytes (o : Host.Outcome State Fault Refusal) : List Nat :=
  match o with
  | .next s => s.out.map fun c => c.2.toNat
  | _ => []

def resRegs (r : Res State) : Option (Fsm × ErrKind × List Nat) := regs r.outcome

def p1 : List Nat := [0x00, 0x04, 0x82, 0x7A, 0x08, 0xF8, 0x07]
def p3 : List Nat := [0x00, 0x05, 0xF0, 0xE4, 0xED, 0xC5, 0x3D, 0x02, 0xFE, 0x01]

/-! ### Bit Reader: B1, B5, B8, B10, B12 -/

theorem test_refill_B1 : resRegs (refill 16 (running [0, 4, 0x82, 0x02] 1)) = some (.readToken, .none, [0x0282, 16, 4, 0, 0, 0]) := by decide +kernel
theorem test_refill_B5 : resRegs (refill 16 (midRun [0, 4, 0, 0, 0xFE, 0x01] 1 0x01 7 4 [])) = some (.readToken, .none, [0xFF01, 23, 6, 0, 0, 0]) := by decide +kernel
theorem test_refill_B8 : resRegs (refill 16 (midRun [0, 4, 0, 0, 0x08] 1 0x01 7 4 [])) = some (.failed, .incompleteInput, [0x0401, 15, 5, 0, 0, 0]) := by decide +kernel
theorem test_refill_B10 : resRegs (refill 14 (midRun [0, 4, 0, 0] 1 0 13 4 [])) = some (.failed, .incompleteInput, [0, 13, 4, 0, 0, 0]) := by decide +kernel
theorem test_consume_B3 : resRegs (consume 1 (midRun [0, 4, 0x82, 0x02] 1 0x0282 16 4 [])) = some (.readToken, .none, [0x0141, 15, 4, 0, 0, 0]) := by decide +kernel
theorem test_consume_B12 : resRegs (consume 6 (midRun p1 1 0 5 4 [])) = none := by decide +kernel

/-! ### Dictionary: K2, K7, K10, K12 -/

theorem test_emit_K2 :
    resRegs (emit 0x62 { running p1 2000 with dictWritePos := 1023, dictFilledSize := 1023, outputPos := 1023 }) =
      some (.readToken, .none, [0, 0, 2, 1024, 0, 1024]) := by decide +kernel
theorem test_readBackPos_K7 :
    [3, 4, 5, 1023].map (fun D => (midRun p1 9 0 0 2 [0x61, 0x62, 0x63]).readBackPos D) = [2, 1, 0, 2] := by decide +kernel
theorem test_readBackPos_K10 :
    [0, 16, 17, 1022, 1023].map
      (fun D => ({ running p1 9 with dictWritePos := 17, dictFilledSize := 1024 } : State).readBackPos D) =
      [16, 0, 1023, 18, 17] := by decide +kernel
theorem test_copy_K12 : outBytes (copyBytes 3 4 (midRun p1 6 0 0 2 [0x61, 0x62, 0x63])).outcome = [0x61, 0x62, 0x63, 0x62, 0x62, 0x61] := by decide +kernel
theorem test_copy_K15 : resRegs (copyBytes 5 0 (midRun p1 4 0 0 2 [0x61])) = some (.failed, .bufferTooSmall, [0, 0, 2, 4, 4, 4]) := by decide +kernel

/-! ### Tokens, one step each: P1 to P3, V9, V10, P6 -/

theorem test_step_LIT8_P1 : regs (step (running p1 8)) = some (.readToken, .none, [0x3D, 7, 4, 1, 1, 1]) := by decide +kernel
theorem test_step_COPY_P1 : regs (step (midRun p1 8 0x3D 7 4 [0x41])) = some (.readToken, .none, [0x1F01, 13, 6, 6, 6, 6]) := by decide +kernel
theorem test_step_END_P1 : regs (step (midRun p1 8 0x1F01 13 6 [0x41, 0x41, 0x41, 0x41, 0x41, 0x41])) = some (.done, .none, [0, 5, 7, 6, 6, 6]) := by decide +kernel
theorem test_step_BufferTooSmall_P1 : regs (step (midRun p1 4 0x3D 7 4 [0x41])) = some (.failed, .bufferTooSmall, [0x1F01, 13, 6, 4, 4, 4]) := by decide +kernel
theorem test_step_LITP_P2 :
    regs (step (running [0x01, 0x06, 0x0E, 0x93, 0x51, 0x17, 0x7C, 0xC0, 0x3F] 16)) = some (.readToken, .none, [0x24C, 10, 4, 1, 1, 1]) := by decide +kernel
theorem test_step_COPY2_P3 : regs (step (midRun p3 17 0x317B 14 6 [0x78, 0x79])) = some (.readToken, .none, [0xF71, 14, 7, 4, 4, 4]) := by decide +kernel
theorem test_step_COPY_L9_P3 : regs (step (midRun p3 17 0xF71 14 7 [0x78, 0x79, 0x78, 0x79])) = some (.readToken, .none, [0x1, 7, 8, 17, 17, 17]) := by decide +kernel
theorem test_step_empty_dictionary_V9 : regs (step (running [0x00, 0x04, 0x1F, 0x02, 0xFE, 0x01] 3)) = some (.failed, .badData, [0x7F01, 15, 5, 0, 0, 0]) := by decide +kernel
theorem test_step_full_output_V10 : regs (step (running [0x00, 0x04, 0x82, 0x02] 0)) = some (.done, .none, [0, 0, 2, 0, 0, 0]) := by decide +kernel
theorem test_step_cut_in_token_P6 : regs (step (midRun [0x00, 0x04, 0x82, 0x7A, 0x08] 6 0x3D 7 4 [0x41])) = some (.failed, .incompleteInput, [0x43D, 15, 5, 1, 1, 1]) := by decide +kernel
theorem test_step_second_lookahead_P6 : regs (step (midRun [0x00, 0x04, 0x82, 0x02, 0x00, 0x06] 300 0x01 7 4 [0x41])) = some (.failed, .incompleteInput, [0x03, 7, 6, 1, 1, 1]) := by decide +kernel

/-! ### Launch: S2, S5, V11, V12 -/

def launchOn (img : List Nat) (base outLen : Nat) : Host.Outcome State Fault Refusal :=
  launch base img.length outLen { State.reset with input := image img }

theorem test_launch_short_S2 : regs (launchOn [0x07, 0x09, 0x82] 0 0) = some (.failed, .incompleteInput, [0, 0, 0, 0, 0, 0]) := by decide +kernel
theorem test_launch_bad_header_S5 : regs (launchOn [0x00, 0x07, 0x82, 0x02, 0xFE, 0x01] 0 1) = some (.failed, .badData, [0, 0, 0, 0, 0, 0]) := by decide +kernel
theorem test_launch_bad_mode_S5 : regs (launchOn [0xFF, 0x04, 0x82, 0x02, 0xFE, 0x01] 0 1) = some (.failed, .badData, [0, 0, 0, 0, 0, 0]) := by decide +kernel
theorem test_launch_at_base_V11 : regs (launchOn [0xAA, 0xBB, 0xCC, 0x00, 0x04, 0x82, 0x7A, 0x08, 0xF8, 0x07] 3 6) = some (.readToken, .none, [0, 0, 5, 0, 0, 0]) := by decide +kernel
theorem test_launch_base_beyond_V12 : regs (launchOn [0x00, 0x04, 0x82, 0x02] 9 1) = some (.failed, .incompleteInput, [0, 0, 9, 0, 0, 0]) := by decide +kernel

/-! ### The fetch word -/

theorem test_fetch_word_runs_LITP20 : regs (step (State.reset.withFetchWord 8 0x1E)) = some (.readToken, .none, [0, 11, 4, 1, 1, 1]) := by decide +kernel
theorem test_fetch_word_runs_END : regs (step (State.reset.withFetchWord 16 0xFF01)) = some (.done, .none, [0, 0, 4, 0, 0, 0]) := by decide +kernel

/-! ### Witnesses: for each statement with hypotheses, states and operands that meet them all together -/

def afterLit : State := midRun p1 8 0x3D 7 4 [0x41]
/-- `afterLit` once 16 bits are held. -/
def held : State := midRun p1 8 0x7C043D 23 6 [0x41]
/-- Nothing emitted, 16 bits held. -/
def heldEmpty : State := midRun [0x00, 0x04, 0x1F, 0x02, 0xFE, 0x01] 3 0x021F 16 4 []
/-- `held` at the offset part of a copy of 2. -/
def atOffset : State := { held with pendingLength := some 2 }
/-- The state in which a step answers, or power-on. -/
def nextOf (o : Host.Outcome State Fault Refusal) : State :=
  match o with
  | .next s => s
  | _ => State.reset

theorem test_refill_gives_held : refill 16 afterLit = .ok held := by rfl

theorem test_witness_ShortInputFailsTheLaunch : State.reset.fsm ≠ .readToken ∧ (if 0 ≤ 3 then 3 - 0 else 0) < 4 := by decide
theorem test_witness_ShortInput_base_beyond : State.reset.fsm ≠ .readToken ∧ (if 9 ≤ 8 then 8 - 9 else 0) < 4 := by decide
theorem test_witness_IllegalHeaderFailsTheLaunch :
    let s : State := { State.reset with input := image [2, 4, 0, 0] }
    s.fsm ≠ .readToken ∧ 0 + 4 ≤ 4 ∧ s.input.read 0 = some 2 ∧ s.input.read (0 + 1) = some 4 ∧
      (1 < (2 : Byte).toNat ∨ (4 : Byte).toNat < 4 ∨ 6 < (4 : Byte).toNat) := by decide +kernel
theorem test_witness_IllegalHeader_low_code :
    let s : State := { State.reset with input := image [1, 3, 0, 0] }
    s.fsm ≠ .readToken ∧ s.input.read 0 = some 1 ∧ s.input.read 1 = some 3 ∧ (3 : Byte).toNat < 4 := by decide +kernel
theorem test_witness_IllegalHeader_high_code :
    let s : State := { State.reset with input := image [1, 7, 0, 0] }
    s.fsm ≠ .readToken ∧ s.input.read 0 = some 1 ∧ s.input.read 1 = some 7 ∧ 6 < (7 : Byte).toNat := by decide +kernel
theorem test_witness_LegalHeaderStartsTheDecode :
    let s : State := { State.reset with input := image [1, 6, 0, 0] }
    s.fsm ≠ .readToken ∧ 0 + 4 ≤ 4 ∧ s.input.read 0 = some 1 ∧ s.input.read (0 + 1) = some 6 ∧
      (1 : Byte).toNat ≤ 1 ∧ 4 ≤ (6 : Byte).toNat ∧ (6 : Byte).toNat ≤ 6 := by decide +kernel
theorem test_witness_LaunchWhileRunningIsRefused : (running p1 8).fsm = .readToken := by decide +kernel
theorem test_witness_LaunchForgetsThePreviousDecode :
    let s := State.reset
    let t : State := { State.reset with fsm := .done, outputPos := 5, bitCount := 3 }
    s.fsm ≠ .readToken ∧ t.fsm ≠ .readToken ∧ t.input = s.input ∧ t.dict = s.dict ∧ t.out = s.out ∧
      t.hostMoves = s.hostMoves ∧ t.freeIndex = s.freeIndex ∧ t ≠ s := by decide +kernel
theorem test_witness_HostMoves_none : State.reset.fsm ≠ .readToken ∧ State.reset.hostMoves = [] := by decide
theorem test_witness_HostMoves_launch :
    let s : State := { State.reset with hostMoves := [.launch 0 4 1] }
    s.fsm ≠ .readToken ∧ s.hostMoves = .launch 0 4 1 :: [] := by decide
theorem test_witness_HostMoves_fillIn :
    let s : State := { State.reset with hostMoves := [.fillIn 7 [1, 2]] }
    s.fsm ≠ .readToken ∧ s.hostMoves = .fillIn 7 [1, 2] :: [] := by decide
theorem test_witness_HostMoves_fillOut :
    let s : State := { State.reset with hostMoves := [.fillOut 0 [9]] }
    s.fsm ≠ .readToken ∧ s.hostMoves = .fillOut 0 [9] :: [] := by decide
theorem test_witness_HostMoves_running : (running p1 8).fsm = .readToken ∧ step (running p1 8) = .next (nextOf (step (running p1 8))) :=
  ⟨by decide +kernel, rfl⟩
theorem test_witness_Result_over : ({ State.reset with fsm := .done } : State).terminal ∧ ({ State.reset with fsm := .failed } : State).terminal := by decide
theorem test_witness_Result_not_over : ¬ State.reset.terminal := by decide
theorem test_witness_FullOutputEndsTheRun :
    (running p1 0).fsm = .readToken ∧ (running p1 0).pendingLength = none ∧ (running p1 0).outputPos = (running p1 0).outputLen := by decide +kernel
theorem test_witness_StepRuns_token :
    afterLit.fsm = .readToken ∧ afterLit.pendingLength = none ∧ afterLit.outputPos ≠ afterLit.outputLen ∧
      refill 16 afterLit = .ok held ∧ decode held.ctx held.window = .ok (.copyL3 0 0) :=
  ⟨by decide +kernel, by decide +kernel, by decide +kernel, rfl, rfl⟩
theorem test_witness_StepRuns_refill_ends :
    let s := running [0, 4, 0x82] 1
    s.fsm = .readToken ∧ s.pendingLength = none ∧ s.outputPos ≠ s.outputLen ∧ refill 16 s = .error (nextOf (refill 16 s).outcome |> .next) :=
  ⟨by decide +kernel, by decide +kernel, by decide +kernel, rfl⟩
theorem test_witness_StepRuns_offset :
    atOffset.fsm = .readToken ∧ atOffset.pendingLength = some 2 ∧
      decode atOffset.offsetCtx atOffset.window = .ok .offs01 ∧ Instr.offs01.shape = .offs 1 ∧
      exec .offs01 atOffset = .next (nextOf (exec .offs01 atOffset)) ∧ (nextOf (exec .offs01 atOffset)).fsm = .readToken :=
  ⟨by decide +kernel, by decide +kernel, rfl, rfl, rfl, by decide +kernel⟩
/-- Serves `StepIsTheSpecsPseudocode`, `RunningDecodeNeverSticks`, `EveryRunEnds`, `ReadBackFindsTheByteAtDistance`,
`CopyAtDistanceZeroRepeatsTheLastByte` (with `L = 7`, up to the full output). -/
theorem test_witness_running_invariant :
    afterLit.Inv ∧ afterLit.inputFilled ∧ afterLit.fsm = .readToken ∧ 0 < afterLit.dictFilledSize ∧
      afterLit.outputPos + 7 ≤ afterLit.outputLen := by decide +kernel
theorem test_witness_StepKeepsTheInvariant : afterLit.Inv ∧ step afterLit = .next (nextOf (step afterLit)) :=
  ⟨by decide +kernel, rfl⟩
theorem test_witness_StepTakes_completes :
    afterLit.Inv ∧ afterLit.fsm = .readToken ∧ step afterLit = .next (nextOf (step afterLit)) ∧
      (nextOf (step afterLit)).fsm = .readToken := ⟨by decide +kernel, by decide +kernel, rfl, by decide +kernel⟩
theorem test_witness_StepTakes_ends :
    (running p1 0).Inv ∧ (running p1 0).fsm = .readToken ∧ step (running p1 0) = .next (nextOf (step (running p1 0))) ∧
      (nextOf (step (running p1 0))).fsm = .done := ⟨by decide +kernel, by decide +kernel, rfl, by decide +kernel⟩
theorem test_witness_StepTakes_faults :
    (running [0, 4, 0x82] 1).Inv ∧ (running [0, 4, 0x82] 1).fsm = .readToken ∧
      step (running [0, 4, 0x82] 1) = .next (nextOf (step (running [0, 4, 0x82] 1))) ∧
      (nextOf (step (running [0, 4, 0x82] 1))).fsm = .failed := ⟨by decide +kernel, by decide +kernel, rfl, by decide +kernel⟩
theorem test_witness_CursorAdvances :
    afterLit.fsm = .readToken ∧ afterLit.pendingLength = none ∧ afterLit.outputPos ≠ afterLit.outputLen ∧
      refill 16 afterLit = .ok held ∧ decode held.ctx held.window = .ok (.copyL3 0 0) ∧
      step afterLit = .next (nextOf (step afterLit)) ∧ (nextOf (step afterLit)).fsm ≠ .failed :=
  ⟨by decide +kernel, by decide +kernel, by decide +kernel, rfl, rfl, rfl, by decide +kernel⟩
theorem test_witness_StaleDictionaryNeverMatters :
    let t : State := { afterLit with dict := afterLit.dict.write 77 5 }
    afterLit.Inv ∧ SameButStale afterLit t ∧ t ≠ afterLit :=
  ⟨by decide +kernel, ⟨rfl, by decide +kernel⟩, by decide +kernel⟩
theorem test_witness_TokenNeedsSixteenBits :
    let s := midRun [0x00, 0x04, 0x82, 0x08, 0x01] 2 0x04 7 4 [0x41]
    s.Inv ∧ s.inputFilled ∧ s.fsm = .readToken ∧ s.outputPos < s.outputLen ∧ s.bitsLeft < 16 := by decide +kernel
theorem test_witness_RefillFetchesJustEnough_16 : afterLit.readerInv ∧ afterLit.inputFilled ∧ 16 ≤ afterLit.bitsLeft := by decide +kernel
theorem test_witness_RefillFetchesJustEnough_short :
    let s := midRun [0, 4, 0, 0] 1 0 13 4 []
    s.readerInv ∧ s.inputFilled ∧ s.bitsLeft < 14 := by decide +kernel
theorem test_witness_RefillFetchesJustEnough_14 :
    let s := midRun p1 8 0 6 6 []
    s.readerInv ∧ s.inputFilled ∧ 14 ≤ s.bitsLeft ∧ s.bitsLeft < 16 := by decide +kernel
theorem test_witness_ConsumeDropsTheLowBits : 23 ≤ held.bitCount ∧ 0 ≤ held.bitCount := by decide +kernel
theorem test_witness_BitsBeyond : held.bitCount < 24 ∧ 23 ≤ held.bitCount := by decide +kernel
theorem test_witness_EmitWritesBothMemories : held.outputPos < held.outputLen ∧ held.dictWritePos < 4096 := by decide +kernel
theorem test_witness_ReadBackOfNothingIsBadData : heldEmpty.dictFilledSize = 0 := by decide +kernel
theorem test_witness_FixedLiteralEmitsItsByte :
    9 ≤ held.bitCount ∧ held.outputPos < held.outputLen ∧ held.dictWritePos < 4096 := by decide +kernel
theorem test_witness_PrefixCodedLiteralEmitsItsIndex :
    Instr.litpFF.shape = .litp 0xFF ∧ 1 + Rom.chBits (0xFF : Byte).toNat ≤ held.bitCount ∧ held.outputPos < held.outputLen ∧
      held.dictWritePos < 4096 := by decide +kernel
theorem test_witness_EndGoesToDone : 16 ≤ held.bitCount := by decide +kernel
theorem test_witness_ModeZeroLiteralToken :
    let s := running p1 8
    let r := midRun p1 8 0x7A82 16 4 []
    s.Inv ∧ s.fsm = .readToken ∧ s.outputPos ≠ s.outputLen ∧ refill 16 s = .ok r ∧ s.literalModeFlag = 0 ∧
      r.bitAccumulator.toNat % 2 = 0 :=
  ⟨by decide +kernel, by decide +kernel, by decide +kernel, rfl, by decide +kernel, by decide +kernel⟩
theorem test_witness_ModeOneLiteralToken :
    let s := running [0x01, 0x06, 0x0E, 0x93, 0x51] 16
    let r := midRun [0x01, 0x06, 0x0E, 0x93, 0x51] 16 0x930E 16 4 []
    s.Inv ∧ s.fsm = .readToken ∧ s.outputPos ≠ s.outputLen ∧ refill 16 s = .ok r ∧ s.literalModeFlag = 1 ∧
      r.bitAccumulator.toNat % 2 = 0 :=
  ⟨by decide +kernel, by decide +kernel, by decide +kernel, rfl, by decide +kernel, by decide +kernel⟩
theorem test_witness_SentinelEndsTheRun :
    let s := running [0x00, 0x04, 0x01, 0xFF] 1
    let r := midRun [0x00, 0x04, 0x01, 0xFF] 1 0xFF01 16 4 []
    s.Inv ∧ s.fsm = .readToken ∧ s.outputPos ≠ s.outputLen ∧ refill 16 s = .ok r ∧
      r.bitAccumulator.toNat % 2 ^ 16 = 0xFF01 :=
  ⟨by decide +kernel, by decide +kernel, by decide +kernel, rfl, by decide +kernel⟩
theorem test_witness_SentinelEndsTheRun_full :
    (running p1 0).Inv ∧ (running p1 0).fsm = .readToken ∧ (running p1 0).outputPos = (running p1 0).outputLen := by decide +kernel
theorem test_witness_OffsetPrefixConsumesItsCode :
    Instr.offs3F.shape = .offs 0x3F ∧ held.readerInv ∧ held.inputFilled ∧ 14 ≤ held.bitsLeft := by decide +kernel
theorem test_witness_OffsetPrefixNeedsFourteenBits :
    let s := running [0, 4, 0x82] 1
    Instr.offs00.shape = .offs 0 ∧ s.readerInv ∧ s.inputFilled ∧ s.bitsLeft < 14 := by decide +kernel
theorem test_witness_ShortCopyCopiesTwoBytes :
    held.Inv ∧ held.fsm = .readToken ∧ held.inputFilled ∧ 4 ≤ held.bitCount ∧ 18 ≤ held.bitsLeft ∧
      0 < held.dictFilledSize ∧ held.outputPos + 2 ≤ held.outputLen := by decide +kernel
theorem test_witness_CopyCopiesItsLength :
    (Instr.copyL3 63 15).shape = .copy 3 0 63 15 ∧ wellFormed held.ctx (.copyL3 63 15) ∧ held.Inv ∧ held.fsm = .readToken ∧
      held.inputFilled ∧ 1 + Rom.lenBits 3 + Rom.exLenBits 3 ≤ held.bitCount ∧
      1 + Rom.lenBits 3 + Rom.exLenBits 3 + 14 ≤ held.bitsLeft ∧ 0 < held.dictFilledSize ∧
      held.outputPos + (Rom.lenBase 3 + 0) ≤ held.outputLen := by decide +kernel
theorem test_witness_OverlongCopyIsBufferTooSmall :
    let s := midRun p1 4 0x7C043D 23 6 [0x41]
    copyOperands s.ctx (.copyL3 0 0) = some ⟨3, 5, 0, 0⟩ ∧ wellFormed s.ctx (.copyL3 0 0) ∧ s.Inv ∧ s.fsm = .readToken ∧
      s.inputFilled ∧ s.copyReachesBytes ⟨3, 5, 0, 0⟩ ∧ 0 < s.dictFilledSize ∧ s.outputPos < s.outputLen ∧
      s.outputLen < s.outputPos + 5 := by decide +kernel
theorem test_witness_CopyFromNothingIsBadData :
    copyOperands heldEmpty.ctx (.copyL1 0 0) = some ⟨1, 3, 0, 0⟩ ∧ wellFormed heldEmpty.ctx (.copyL1 0 0) ∧ heldEmpty.Inv ∧
      heldEmpty.fsm = .readToken ∧ heldEmpty.inputFilled ∧ heldEmpty.copyReachesBytes ⟨1, 3, 0, 0⟩ ∧
      heldEmpty.dictFilledSize = 0 ∧ heldEmpty.outputPos < heldEmpty.outputLen := by decide +kernel
theorem test_witness_CopyNeedsFourteenBits :
    let s := midRun [0x00, 0x04, 0x82, 0x02, 0x00, 0x06] 300 0x030001 23 6 [0x41]
    copyOperands s.ctx (.copyL15 0 0 0) = some ⟨15, 264, 0, 0⟩ ∧ s.readerInv ∧ s.inputFilled ∧
      lengthPartWidth 15 ≤ s.bitCount ∧ s.bitsLeft < lengthPartWidth 15 + 14 := by decide +kernel
theorem test_witness_LiteralFrame_LIT8 :
    (∃ b, (Instr.lit8 7).shape = .lit8 b ∨ (Instr.lit8 7).shape = .litp b) ∧ exec (.lit8 7) held = .next (nextOf (exec (.lit8 7) held)) :=
  ⟨⟨7, .inl rfl⟩, rfl⟩
theorem test_witness_LiteralFrame_LITP :
    (∃ b, Instr.litp20.shape = .lit8 b ∨ Instr.litp20.shape = .litp b) ∧ exec .litp20 held = .next (nextOf (exec .litp20 held)) :=
  ⟨⟨0x20, .inr rfl⟩, rfl⟩
theorem test_witness_CopyFrame_COPY :
    copyOperands held.ctx (.copyL3 0 0) = some ⟨3, 5, 0, 0⟩ ∧ exec (.copyL3 0 0) held = .next (nextOf (exec (.copyL3 0 0) held)) ∧
      held.dictWritePos < held.dictSize := ⟨by decide +kernel, rfl, by decide +kernel⟩
theorem test_witness_CopyFrame_COPY2 :
    copyOperands held.ctx (.copy2 0 1) = some ⟨0, 2, 0, 1⟩ ∧ exec (.copy2 0 1) held = .next (nextOf (exec (.copy2 0 1) held)) :=
  ⟨by decide +kernel, rfl⟩
theorem test_witness_NonStoringFrame_END : exec .endOfStream held = .next (nextOf (exec .endOfStream held)) := rfl
theorem test_witness_NonStoringFrame_OFFS : Instr.offs01.shape = .offs 1 ∧ exec .offs01 held = .next (nextOf (exec .offs01 held)) :=
  ⟨rfl, rfl⟩
/-- Serves the promises of the whole instruction set. -/
theorem test_witness_promises :
    held.dictWritePos < held.dictSize ∧ exec (.lit8 7) held = .next (nextOf (exec (.lit8 7) held)) := ⟨by decide +kernel, rfl⟩
theorem test_witness_ExactlyOneCodeApplies :
    ∀ tab ∈ [Rom.lenCodes, Rom.offsTable, Rom.chTable], tab = Rom.lenCodes ∨ tab = Rom.offsTable ∨ tab = Rom.chTable := by simp
/-- Serves `EncodedWidthIsInRange` too. -/
theorem test_witness_DecodeOfEncode : wellFormed ⟨0, 6, false⟩ (.copyL15 254 63 63) = true ∧ wellFormed ⟨1, 4, false⟩ .litp00 = true := by decide
theorem test_witness_DecodedBitsAreTheEncoding : (⟨0, 4, false⟩ : Ctx).sizeLegal = true ∧ decode ⟨0, 4, false⟩ 0x3D = .ok (.copyL3 0 0) :=
  ⟨by decide, rfl⟩
theorem test_witness_EveryBitPatternDecodes : (⟨1, 6, true⟩ : Ctx).sizeLegal = true := by decide
theorem test_witness_EachLengthHasOneEncoding : 2 ≤ 519 ∧ 519 ≤ 519 := by decide
theorem test_witness_LiteralMode_0 : (⟨0, 4, false⟩ : Ctx).atOffset = false ∧ 0x82 % 2 = 0 ∧ (⟨0, 4, false⟩ : Ctx).literalModeFlag = 0 := by decide
theorem test_witness_LiteralMode_1 : (⟨1, 4, false⟩ : Ctx).atOffset = false ∧ 0x82 % 2 = 0 ∧ (⟨1, 4, false⟩ : Ctx).literalModeFlag = 1 := by decide
theorem test_witness_AssembledCopy_in_range :
    (⟨0, 4, false⟩ : Ctx).sizeLegal = true ∧ (⟨0, 4, false⟩ : Ctx).atOffset = false ∧ 2 ≤ 518 ∧ 518 ≤ 518 ∧
      1023 < 64 * 2 ^ (if 518 = 2 then 2 else (⟨0, 4, false⟩ : Ctx).dictSizeCode.toNat) := by decide
theorem test_witness_AssembledCopy_too_far :
    (⟨0, 6, false⟩ : Ctx).sizeLegal = true ∧ (⟨0, 6, false⟩ : Ctx).atOffset = false ∧
      64 * 2 ^ (if 2 = 2 then 2 else (⟨0, 6, false⟩ : Ctx).dictSizeCode.toNat) ≤ 256 := by decide

end Sys2Proof.Tests
end

namespace Sys2Proof.Machine

/-! ### The states inside a token

Between its start and its end a token consumes bits, fetches bytes and emits bytes, and does nothing else
(44_fsm.md R125). `TokenPath` says so once; what a token keeps or counts is then an induction over it. -/

/-- `TokenPath s n u`: a token that started in `s` can stand in `u`, having consumed `n` bits. -/
inductive TokenPath (s : State) : Nat → State → Prop
  | start : TokenPath s 0 s
  | consumed {n : Nat} {u : State} (k : Nat) : TokenPath s n u → k ≤ u.bitCount → TokenPath s (n + k) (u.consumed k)
  | fetched {n : Nat} {u : State} (b : Byte) : TokenPath s n u → u.bitCount < Config.tokenLookahead →
      u.inputPos < u.inputLen → TokenPath s n (u.fetched b)
  | emitted {n : Nat} {u : State} (b : Byte) : TokenPath s n u → u.outputPos < u.outputLen →
      u.dictWritePos < Config.dictCap → TokenPath s n (u.emitted b)

/-- A fault was raised inside a token that started in `s` (60_exceptions.md R147). -/
def Faulted (s t : State) : Prop := ∃ n u e, TokenPath s n u ∧ e ≠ .none ∧ t = u.raised e

/-- The next states of a token of `w` bits that started in `s`: it completes, it ends the stream, or it faults. -/
inductive TokenEnd (s : State) (w : Nat) : State → Prop
  | completed {t : State} : TokenPath s w t → TokenEnd s w t
  | finished {u : State} : TokenPath s w u → TokenEnd s w u.finished
  | faulted {t : State} : Faulted s t → TokenEnd s w t

theorem TokenPath.faulted {s u : State} {n : Nat} {e : ErrKind} (h : TokenPath s n u) (he : e ≠ .none) :
    Faulted s (u.raised e) := ⟨n, u, e, h, he, rfl⟩

/-- No token writes the configuration (10_state.md R18, R19, R22; 20_memory.md R31). -/
theorem TokenPath.sameConfig {s u : State} {n : Nat} (h : TokenPath s n u) : SameConfig s u := by
  induction h with
  | start => exact ⟨rfl, rfl, rfl, rfl, rfl, rfl, rfl, rfl⟩
  | consumed k _ _ ih => exact ih
  | fetched b _ _ _ ih => exact ih
  | emitted b _ _ _ ih => exact ih

theorem TokenPath.dictSizeCode_eq {s u : State} {n : Nat} (h : TokenPath s n u) : u.dictSizeCode = s.dictSizeCode :=
  h.sameConfig.2.1

theorem TokenPath.ctx_eq {s u : State} {n : Nat} (h : TokenPath s n u) : u.ctx = s.ctx := by
  obtain ⟨hmode, hsize, -⟩ := h.sameConfig
  simp only [State.ctx, hmode, hsize]

/-- The bit cursor counts the consumed bits: a fetch brings 8 bits and moves `inputPos` by one byte (10_state.md R14). -/
theorem TokenPath.bitCursor_eq {s u : State} {n : Nat} (h : TokenPath s n u) : u.bitCursor = s.bitCursor + n := by
  unfold State.bitCursor at *
  induction h with
  | start => simp
  | consumed k _ hk ih => simp only [State.consumed_bitCount, State.consumed_inputPos, State.consumed_inputBase]; omega
  | fetched b _ _ _ ih => simp only [State.fetched_bitCount, State.fetched_inputPos, State.fetched_inputBase]; omega
  | emitted b _ _ _ ih => exact ih

/-! ### Every operation stays on the path -/

/-- Every value `r` answers meets `P`, and every next state in which it ends the step meets `Q`. -/
def Res.Meets {α : Type} (r : Res α) (P : α → Prop) (Q : State → Prop) : Prop :=
  match r with
  | .ok a => P a
  | .error (.next t) => Q t
  | .error _ => True

theorem Res.Meets.bind {α β : Type} {r : Res α} {f : α → Res β} {P : α → Prop} {P' : β → Prop} {Q : State → Prop}
    (hr : r.Meets P Q) (hf : ∀ a, P a → (f a).Meets P' Q) : Res.Meets (r >>= f) P' Q := by
  match r, hr with
  | .ok a, ha => exact hf a ha
  | .error (.next t), ht => exact ht
  | .error (.fault _), _ => trivial
  | .error (.refused _), _ => trivial

/-- A step whose last operation meets `P` and `Q` meets one of them in its next state. -/
theorem Res.Meets.outcome {r : Res State} {P Q : State → Prop} {t : State} (h : r.Meets P Q)
    (ht : r.outcome = .next t) : P t ∨ Q t := by
  rcases Res.outcome_eq_next.mp ht with rfl | rfl
  · exact .inl h
  · exact .inr h

theorem Res.Meets.next {r : Res State} {P : State → Prop} {t : State} (h : r.Meets P P) (ht : r.outcome = .next t) :
    P t := (h.outcome ht).elim id id

section
variable {s u : State} {n : Nat} (h : TokenPath s n u)
include h

theorem raise_meets {α : Type} {P : α → Prop} {e : ErrKind} (he : e ≠ .none) :
    (raise e u : Res α).Meets P (Faulted s) := h.faulted he

theorem consume_meets (k : Nat) : (consume k u).Meets (TokenPath s (n + k)) (Faulted s) := by
  unfold consume
  split
  · exact h.consumed k ‹_›
  · trivial

theorem fetchByte_meets (hb : u.bitCount < Config.tokenLookahead) :
    (fetchByte u).Meets (TokenPath s n) (Faulted s) := by
  rcases fetchByte_cases u with ⟨b, hlt, -, he⟩ | ⟨-, he⟩ | ⟨-, -, he⟩
  · rw [he]; exact h.fetched b hb hlt
  · rw [he]; exact h.faulted (by decide)
  · rw [he]; trivial

theorem refillLoop_meets (fuel : Nat) {N : Nat} (hN : N ≤ Config.tokenLookahead) :
    (refillLoop fuel N u).Meets (TokenPath s n) (Faulted s) := by
  induction fuel generalizing u with
  | zero => exact h
  | succ fuel ih =>
    rw [refillLoop]
    split
    · exact (fetchByte_meets h (by omega)).bind fun _ hv => ih hv
    · exact h

theorem refill_meets {N : Nat} (hN : N ≤ Config.tokenLookahead) : (refill N u).Meets (TokenPath s n) (Faulted s) :=
  refillLoop_meets h N hN

theorem emit_meets (b : Byte) : (emit b u).Meets (TokenPath s n) (Faulted s) := by
  unfold emit
  split
  · trivial
  · split
    · trivial
    · exact h.emitted b (by omega) (by omega)

theorem readBack_meets (D : Nat) : (readBack D u).Meets (fun _ => True) (Faulted s) := by
  unfold readBack
  split
  · exact h.faulted (by decide)
  · split
    · trivial
    · cases u.dict.read (u.readBackPos D) <;> trivial

theorem copyBytes_meets (L D : Nat) : (copyBytes L D u).Meets (TokenPath s n) (Faulted s) := by
  induction L generalizing u with
  | zero => exact h
  | succ L ih =>
    rw [copyBytes]
    split
    · exact h.faulted (by decide)
    · exact (readBack_meets h D).bind fun b _ => (emit_meets h b).bind fun _ hv => ih hv

/-- The two literal formats: the flag, the `k` bits of the byte's code, the byte (43_tokens.md R101, R102). -/
theorem literal_meets (k : Nat) (b : Byte) :
    Res.Meets (do let v ← consume 1 u; let v ← consume k v; emit b v) (TokenPath s (n + 1 + k)) (Faulted s) :=
  (consume_meets h 1).bind fun _ hv => (consume_meets hv k).bind fun _ hw => emit_meets hw b

theorem lengthPart_meets (i : Nat) : (lengthPart i u).Meets (TokenPath s (n + lengthPartWidth i)) (Faulted s) := by
  have hw : n + lengthPartWidth i = n + 1 + Rom.lenBits i + Rom.exLenBits i := by unfold lengthPartWidth; omega
  rw [hw]
  exact (consume_meets h 1).bind fun _ hv => (consume_meets hv _).bind fun _ hw => consume_meets hw _

theorem offsetPrefix_meets (j : Nat) : (offsetPrefix j u).Meets (TokenPath s (n + Rom.offsBits j)) (Faulted s) :=
  (refill_meets h (by decide)).bind fun _ hv => consume_meets hv _

theorem copyBody_meets (length j low : Nat) :
    (copyBody length j low u).Meets (TokenPath s (n + lowWidth s.dictSizeCode.toNat length)) (Faulted s) := by
  rw [← h.dictSizeCode_eq]
  exact (consume_meets h _).bind fun _ hv => copyBytes_meets hv _ _

end

/-! ### What an instruction and a step can do -/

theorem lenBase_ge_three : ∀ i < 16, 0 < i → 3 ≤ Rom.lenBase i := by decide

theorem lengthBits_width (i extra : Nat) : (lengthBits i extra).width = lengthPartWidth i := by
  simp only [lengthBits, Bits.cat, lengthPartWidth]; omega

theorem copyToken_next {s t : State} {i extra j low : Nat} (h : copyToken i extra j low s = .next t) :
    TokenPath s (lengthPartWidth i + Rom.offsBits j + lowWidth s.dictSizeCode.toNat (lengthOf i extra)) t ∨
      Faulted s t := by
  have hm := (lengthPart_meets (.start (s := s)) i).bind fun _ hu =>
    (offsetPrefix_meets hu j).bind fun _ hv => copyBody_meets hv (lengthOf i extra) j low
  simpa only [Nat.zero_add] using hm.outcome h

/-- Everything an instruction can do: it moves along the path of its own encoding's width, and then completes, ends the
stream, or faults on the way (30_encoding.md R60, 44_fsm.md R125). -/
theorem exec_next {s t : State} {ins : Instr} (h : exec ins s = .next t) :
    TokenEnd s (tokenWidth s.ctx ins) t := by
  have completes {w : Nat} (hw : tokenWidth s.ctx ins = w) (ht : TokenPath s w t ∨ Faulted s t) :
      TokenEnd s (tokenWidth s.ctx ins) t := hw ▸ ht.elim .completed .faulted
  rw [exec_eq_execShape] at h
  unfold tokenWidth encode at completes ⊢
  cases hs : ins.shape with rw [hs] at h completes
  | lit8 byte => exact completes rfl ((literal_meets .start 8 byte).outcome h)
  | litp b => exact completes (by simp [Bits.cat]) ((literal_meets .start (Rom.chBits b.toNat) b).outcome h)
  | copy2 j low =>
    refine completes ?_ (copyToken_next h)
    have h2 : lowWidth s.dictSizeCode.toNat (lengthOf 0 0) = 2 := rfl
    simp only [Bits.cat, lengthBits_width, offsetBits, h2]
    omega
  | copy i extra j low =>
    refine completes ?_ (copyToken_next h)
    obtain ⟨hpos, hlt, -⟩ := Instr.copy_index_lt hs
    have hbase := lenBase_ge_three i hlt hpos
    have hw : lowWidth s.dictSizeCode.toNat (lengthOf i extra) = s.dictSizeCode.toNat :=
      if_neg (by unfold lengthOf; omega)
    simp only [Bits.cat, lengthBits_width, offsetBits, State.ctx, hw]
    omega
  | endOfStream =>
    have hm : Res.Meets (lengthPart 15 s >>= fun u => .ok u.finished) (TokenEnd s (lengthPartWidth 15)) (Faulted s) :=
      (lengthPart_meets .start 15).bind fun _ hu => .finished (by simpa only [Nat.zero_add] using hu)
    exact (hm.outcome h).elim id .faulted
  | offs j => exact completes (Nat.zero_add _).symm ((offsetPrefix_meets .start j.toNat).outcome h)

/-- A token that no table entry matches ends in a fault (31_rom_tables.md R71). -/
theorem rejectToken_next {e : DecodeError} {s t : State} (h : rejectToken e s = .next t) : Faulted s t := by
  have hbad {n : Nat} {u : State} (hu : TokenPath s n u) :
      (raise .badData u : Res State).Meets (Faulted s) (Faulted s) := raise_meets hu (by decide)
  cases e with
  | noLiteralCode | noLengthCode =>
    exact Res.Meets.next ((consume_meets .start 1).bind fun _ hu => hbad hu) h
  | noOffsetCode k =>
    exact Res.Meets.next ((consume_meets .start k).bind fun _ hu =>
      (refill_meets hu (by decide)).bind fun _ hv => hbad hv) h
  | noTableRow => cases h

/-- A refill of a token's 16 bits consumes nothing. -/
theorem tokenPath_of_refill {s r : State} (h : refill Config.tokenLookahead s = .ok r) : TokenPath s 0 r := by
  have hm := refill_meets (.start (s := s)) (Nat.le_refl Config.tokenLookahead)
  rw [h] at hm
  exact hm

/-- Everything `decodeToken` can do: a fault before the token runs, or a token of some width from the refilled state. -/
theorem decodeToken_next {s t : State} (h : decodeToken s = .next t) :
    Faulted s t ∨ ∃ r w, TokenPath s 0 r ∧ TokenEnd r w t := by
  unfold decodeToken at h
  cases hr : refill Config.tokenLookahead s with
  | error o =>
    have hm := refill_meets (.start (s := s)) (Nat.le_refl Config.tokenLookahead)
    simp only [hr] at h hm
    subst h
    exact .inl hm
  | ok r =>
    simp only [hr] at h
    refine .inr ⟨r, ?_⟩
    split at h
    · exact ⟨_, tokenPath_of_refill hr, exec_next h⟩
    · exact ⟨0, tokenPath_of_refill hr, .faulted (rejectToken_next h)⟩

/-! ### The invariant inside a token -/

/-- What holds at every place inside a token of a running decode: the invariant, with `fsm` still `ReadToken`. -/
abbrev State.Running (s : State) : Prop := s.Inv ∧ s.fsm = .readToken

/-- The parts of 10_state.md R24 that a running decode keeps, put back together. -/
theorem State.running_iff {s : State} :
    s.Running ↔ s.fsm = .readToken ∧ s.err = .none ∧ s.pendingLength = none ∧ s.memoryInv ∧ s.headerInv ∧
      s.readerInv ∧ s.dictInv := by
  constructor
  · rintro ⟨⟨hst, hmem, hpend, hrun⟩, hf⟩
    obtain ⟨hhead, hread, hdict⟩ := hrun hf
    exact ⟨hf, by simpa [State.statusInv, hf] using hst, hpend, hmem, hhead, hread, hdict⟩
  · rintro ⟨hf, he, hpend, hmem, hhead, hread, hdict⟩
    exact ⟨⟨by simp [State.statusInv, hf, he], hmem, hpend, fun _ => ⟨hhead, hread, hdict⟩⟩, hf⟩

theorem State.dictSize_pos (s : State) : 0 < s.dictSize := by
  unfold State.dictSize
  rw [Nat.shiftLeft_eq]
  positivity

theorem State.readerInv_consumed {s : State} {k : Nat} (h : s.readerInv) (hk : k ≤ s.bitCount) :
    (s.consumed k).readerInv := by
  obtain ⟨hacc, hcount, hbase, hlen⟩ := h
  refine ⟨?_, ?_, hbase, hlen⟩
  · rw [State.consumed_bitAccumulator, State.consumed_bitCount, BitVec.toNat_ushiftRight, Nat.shiftRight_eq_div_pow]
    apply Nat.div_lt_of_lt_mul
    rwa [← Nat.pow_add, Nat.add_sub_cancel' hk]
  · rw [State.consumed_bitCount]; omega

theorem State.readerInv_fetched {s : State} (b : Byte) (h : s.readerInv) (hb : s.bitCount < Config.tokenLookahead)
    (hlt : s.inputPos < s.inputLen) : (s.fetched b).readerInv := by
  obtain ⟨hacc, -, hbase, -⟩ := h
  have hbyte : (b.setWidth 32 <<< s.bitCount).toNat < 2 ^ (s.bitCount + 8) := by
    rw [BitVec.toNat_shiftLeft, BitVec.toNat_setWidth_of_le (by decide), Nat.shiftLeft_eq, Nat.add_comm, Nat.pow_add]
    exact Nat.lt_of_le_of_lt (Nat.mod_le _ _) (Nat.mul_lt_mul_of_pos_right b.isLt (by positivity))
  refine ⟨?_, ?_, ?_, hlt⟩
  · rw [State.fetched_bitAccumulator, State.fetched_bitCount, BitVec.toNat_or]
    exact Nat.or_lt_two_pow (Nat.lt_of_lt_of_le hacc (Nat.pow_le_pow_right (by decide) (by omega))) hbyte
  · rw [State.fetched_bitCount]
    exact Nat.add_le_add_right (Nat.le_of_lt_succ hb) 8
  · rw [State.fetched_inputPos, State.fetched_inputBase]; omega

/-- The newest byte is the most recent one at its own address. -/
theorem lastIndex_succ_same (n size : Nat) : lastIndex (n + 1) size (n % size) = n := by
  have hdvd : (n - n % size) % size = 0 := Nat.sub_mod_eq_zero_of_mod_eq (by simp)
  simp [lastIndex, hdvd]

/-- At every other address of the window the most recent byte stays the most recent one. -/
theorem lastIndex_succ_other {n size p : Nat} (hp : p < n) (hsize : p < size) (hne : p ≠ n % size) :
    lastIndex (n + 1) size p = lastIndex n size p := by
  have hnz : (n - p) % size ≠ 0 := by
    intro h0
    apply hne
    have := (Nat.modEq_iff_dvd' hp.le).mpr (Nat.dvd_of_mod_eq_zero h0)
    rw [← this, Nat.mod_eq_of_lt hsize]
  have hmod : (n - p) % size = ((n - 1 - p) % size + 1) % size := by
    rw [Nat.mod_add_mod, show n - 1 - p + 1 = n - p by omega]
  have hroom : (n - 1 - p) % size + 1 < size := by
    refine Nat.lt_of_le_of_ne (Nat.mod_lt _ (by omega)) fun hfull => hnz ?_
    rw [hmod, hfull, Nat.mod_self]
  have hsucc : (n - p) % size = (n - 1 - p) % size + 1 := hmod.trans (Nat.mod_eq_of_lt hroom)
  rw [lastIndex, lastIndex, Nat.add_sub_cancel, hsucc]
  omega

theorem lastIndex_lt {n size p : Nat} (hn : 0 < n) : lastIndex n size p < n := by
  unfold lastIndex
  omega

/-- An emitted byte keeps the dictionary's part of the invariant: the window moves on by one (42_dictionary.md R90). -/
theorem State.dictInv_emitted {s : State} (b : Byte) (h : s.dictInv) (hlt : s.outputPos < s.outputLen) :
    (s.emitted b).dictInv := by
  obtain ⟨-, hwrite, hfill, hout, hwin⟩ := h
  have hpos := s.dictSize_pos
  have hfill' : (s.emitted b).dictFilledSize = min (s.outputPos + 1) s.dictSize := by
    rw [State.emitted_dictFilledSize, hfill]
    split <;> omega
  refine ⟨hlt, ?_, hfill', ?_, ?_⟩
  · rw [State.emitted_dictWritePos, hwrite, Nat.mod_add_mod]; rfl
  · intro m hm
    rw [State.emitted_outputPos] at hm
    rw [State.emitted_out]
    by_cases hmn : m = s.outputPos
    · simp [hmn]
    · rw [Memory.read_write_other _ _ hmn]
      exact hout m (by omega)
  · intro p hp
    rw [hfill'] at hp
    rw [State.emitted_dict, State.emitted_out, State.emitted_outputPos, State.emitted_dictSize, hwrite]
    by_cases hpn : p = s.outputPos % s.dictSize
    · rw [hpn, lastIndex_succ_same]
      simp
    · have hplt : p < s.outputPos := by
        rcases Nat.lt_or_ge p s.outputPos with hlt | hge
        · exact hlt
        · exact absurd (show p = s.outputPos % s.dictSize by rw [Nat.mod_eq_of_lt] <;> omega) hpn
      have hlast : lastIndex s.outputPos s.dictSize p ≠ s.outputPos := (lastIndex_lt (by omega)).ne
      rw [lastIndex_succ_other hplt (by omega) hpn, Memory.read_write_other _ _ hpn, Memory.read_write_other _ _ hlast]
      exact hwin p (by omega)

theorem TokenPath.running {s u : State} {n : Nat} (h : TokenPath s n u) (hs : s.Running) : u.Running := by
  induction h with
  | start => exact hs
  | consumed k _ hk ih =>
    obtain ⟨hf, he, hp, hmem, hhead, hread, hdict⟩ := State.running_iff.mp ih
    exact State.running_iff.mpr ⟨hf, he, hp, hmem, hhead, State.readerInv_consumed hread hk, hdict⟩
  | fetched b _ hb hlt ih =>
    obtain ⟨hf, he, hp, hmem, hhead, hread, hdict⟩ := State.running_iff.mp ih
    exact State.running_iff.mpr ⟨hf, he, hp, hmem, hhead, State.readerInv_fetched b hread hb hlt, hdict⟩
  | emitted b _ hlt _ ih =>
    obtain ⟨hf, he, hp, ⟨hdw, how, hiw⟩, hhead, hread, hdict⟩ := State.running_iff.mp ih
    exact State.running_iff.mpr ⟨hf, he, hp, ⟨Memory.wf_write hdw _ _, Memory.wf_write how _ _, hiw⟩, hhead, hread,
      State.dictInv_emitted b hdict hlt⟩

theorem State.Running.finished {s : State} (h : s.Running) : s.finished.Inv := by
  obtain ⟨-, he, hp, hmem, -⟩ := State.running_iff.mp h
  exact ⟨by simp [State.statusInv, he], hmem, hp, nofun⟩

theorem Faulted.inv {s t : State} (h : Faulted s t) (hs : s.Running) : t.Inv := by
  obtain ⟨n, u, e, hu, he, rfl⟩ := h
  obtain ⟨-, -, -, hmem, -⟩ := State.running_iff.mp (hu.running hs)
  exact ⟨by simp [State.statusInv, he], hmem, rfl, nofun⟩

theorem TokenEnd.inv {s t : State} {w : Nat} (h : TokenEnd s w t) (hs : s.Running) : t.Inv := by
  cases h with
  | completed hp => exact (hp.running hs).1
  | finished hp => exact (hp.running hs).finished
  | faulted hf => exact hf.inv hs

theorem tokenStep_keeps_inv {s t : State} (hs : s.Running) (h : tokenStep s = .next t) : t.Inv := by
  obtain ⟨-, -, hp, -⟩ := State.running_iff.mp hs
  simp only [tokenStep, hp] at h
  split at h
  · cases h
    exact hs.finished
  · rcases decodeToken_next h with hf | ⟨r, w, hr, he⟩
    · exact hf.inv hs
    · exact he.inv (hr.running hs)

/-! ### The invariant across the host's moves -/

theorem State.launchFailed_inv {s : State} {e : ErrKind} (hmem : s.memoryInv) (he : e ≠ .none) :
    (s.launchFailed e).Inv := ⟨by simp [State.statusInv, he], hmem, rfl, nofun⟩

/-- A launch that passes its checks starts with the whole of 10_state.md R24 (44_fsm.md R124). -/
theorem State.launched_inv {s : State} {f c : Byte} (hmem : s.memoryInv) (hc : headerLegal f c = true)
    (hlen : s.inputBase + 2 ≤ s.inputLen) : (s.launched f c).Inv := by
  simp only [headerLegal, Bool.and_eq_true, decide_eq_true_eq] at hc
  obtain ⟨⟨-, hc4⟩, hc6⟩ := hc
  have hcode : (c.setWidth 3).toNat = c.toNat := by
    rw [BitVec.toNat_setWidth, Nat.mod_eq_of_lt (by omega)]
  refine ((State.running_iff (s := s.launched f c)).mpr ⟨rfl, rfl, rfl, hmem, ?_, ?_, ?_⟩).1
  · simp only [State.headerInv, State.launched_dictSizeCode, hcode]
    exact ⟨hc4, hc6⟩
  · exact ⟨by simp, Nat.zero_le _, Nat.le_refl _, hlen⟩
  · exact ⟨Nat.zero_le _, (Nat.zero_mod _).symm, (Nat.zero_min _).symm, nofun, nofun⟩

theorem launchChecks_keeps_inv {s t : State} (hmem : s.memoryInv) (h : launchChecks s = .next t) : t.Inv := by
  have hread {a : Nat} : (readIn a s).Meets (fun _ => True) State.Inv := by
    unfold readIn
    split
    · trivial
    · cases s.input.read a <;> trivial
  unfold launchChecks at h
  split at h
  · cases h
    exact State.launchFailed_inv hmem (by decide)
  · rename_i hshort
    have hlen : s.inputBase + 2 ≤ s.inputLen := by
      simp only [avail, Config.minInput] at hshort
      split at hshort <;> omega
    have hm := (hread (a := s.inputBase)).bind fun f _ => (hread (a := s.inputBase + 1)).bind fun c _ =>
      show Res.Meets (if headerLegal f c then .ok (s.launched f c) else .ok (s.launchFailed .badData)) State.Inv
          State.Inv by
        split
        · exact State.launched_inv hmem ‹_› hlen
        · exact State.launchFailed_inv hmem (by decide)
    exact hm.next h

theorem hostStep_keeps_inv {s t : State} (hs : s.Inv) (hf : s.fsm ≠ .readToken) (h : hostStep s = .next t) : t.Inv := by
  obtain ⟨hst, ⟨hd, ho, hi⟩, hp, -⟩ := hs
  have idle {u : State} (hu : u.fsm = s.fsm) : u.fsm = .readToken → u.headerInv ∧ u.readerInv ∧ u.dictInv :=
    fun hr => absurd (hu ▸ hr) hf
  unfold hostStep at h
  split at h
  · cases h
  · cases h
    exact ⟨hst, ⟨hd, ho, Memory.wf_writeBytes hi _ _⟩, hp, idle rfl⟩
  · cases h
    exact ⟨hst, ⟨hd, Memory.wf_writeBytes ho _ _, hi⟩, hp, idle rfl⟩
  · simp only [launch, if_neg hf] at h
    exact launchChecks_keeps_inv (by exact ⟨hd, ho, hi⟩) h

/-! ### The obligations -/

/-- Settles O13: inside a token every place keeps the invariant, by induction on the path; a fault, an end and a host move
keep its part for a decode that does not run. -/
theorem stepKeepsTheInvariant : Obligations.StepKeepsTheInvariant := by
  intro s t hs h
  unfold step at h
  split at h
  · exact tokenStep_keeps_inv ⟨hs, ‹_›⟩ h
  · exact hostStep_keeps_inv hs ‹_› h

/-- Settles O17: the refill consumes nothing, and the path of a token that does not fault consumes the bits of its
encoding. -/
theorem cursorAdvancesByTokenWidth : Obligations.CursorAdvancesByTokenWidth := by
  intro s r t i hf hp hroom hr hd h hok
  have hpath := tokenPath_of_refill hr
  have hstart : r.bitCursor = s.bitCursor := by simpa using hpath.bitCursor_eq
  have hexec : exec i r = .next t := by
    simpa [step, hf, tokenStep, hp, State.outputFull, hroom, decodeToken, hr, hd] using h
  rw [← hstart, ← hpath.ctx_eq]
  cases exec_next hexec with
  | completed ht => exact ht.bitCursor_eq
  | finished hu => exact hu.bitCursor_eq
  | faulted hfault =>
    obtain ⟨n, u, e, -, -, rfl⟩ := hfault
    exact absurd rfl hok

/-- Settles O44: no place on a token's path, and neither of its other ends, differs from its start in the configuration. -/
theorem noTokenWritesTheConfiguration : Obligations.NoTokenWritesTheConfiguration := by
  intro ins s t h
  cases exec_next h with
  | completed ht => exact ht.sameConfig
  | finished hu => exact hu.sameConfig
  | faulted hfault =>
    obtain ⟨n, u, e, hu, -, rfl⟩ := hfault
    exact hu.sameConfig

/-- Settles O12: power-on is `Idle` without an error, with empty memories and no token begun. -/
theorem invariantHoldsAfterPowerOn : Obligations.InvariantHoldsAfterPowerOn :=
  ⟨by decide, ⟨.nil, .nil, .nil⟩, rfl, nofun⟩

end Sys2Proof.Machine

namespace Sys2Proof.Machine

/-! ### What a token leaves of OUT -/

/-- Along a token `outputPos` only grows, and OUT changes only from its old value up to its new one: each byte is emitted
at `outputPos`, which then moves past it (20_memory.md R32, 42_dictionary.md R90). -/
theorem TokenPath.out_frame {s u : State} {n : Nat} (h : TokenPath s n u) :
    s.outputPos ≤ u.outputPos ∧ ∀ a, a < s.outputPos ∨ u.outputPos ≤ a → u.out.read a = s.out.read a := by
  induction h with
  | start => exact ⟨Nat.le_refl _, fun _ _ => rfl⟩
  | consumed k _ _ ih => exact ih
  | fetched b _ _ _ ih => exact ih
  | emitted b _ _ _ ih =>
    obtain ⟨hle, hread⟩ := ih
    refine ⟨Nat.le_succ_of_le hle, fun a ha => ?_⟩
    rw [State.emitted_outputPos] at ha
    rw [State.emitted_out, Memory.read_write_other _ _ (by omega)]
    exact hread a (by omega)

/-- Settles O45: every place on a token's path keeps what was emitted before it and what lies beyond its `outputPos`, and
neither the end of the stream nor a fault writes OUT. -/
theorem emittedOutputIsNeverRewritten : Obligations.EmittedOutputIsNeverRewritten := by
  intro ins s t h
  cases exec_next h with
  | completed ht => exact ht.out_frame
  | finished hu => exact hu.out_frame
  | faulted hfault =>
    obtain ⟨n, u, e, hu, -, rfl⟩ := hfault
    exact hu.out_frame

end Sys2Proof.Machine

namespace Sys2Proof.Rom

/-! ### Scanning a code table

In a table no entry of which begins with another's code, the scan finds the one entry that applies (31_rom_tables.md R71,
R75 (a)); in a complete one it always finds an entry (R75 (b)). -/

theorem Code.clashes_eq (a b : Code) :
    a.clashes b = decide (a.code % 2 ^ min a.bits b.bits = b.code % 2 ^ min a.bits b.bits) := by
  have hmin : (bif Nat.ble a.bits b.bits then a.bits else b.bits) = min a.bits b.bits := by
    rw [Nat.min_def, Bool.cond_eq_ite]
    simp only [Nat.ble_eq]
  rw [Code.clashes, hmin]
  exact Bool.eq_iff_iff.mpr ((Iff.of_eq Nat.beq_eq).trans decide_eq_true_iff.symm)

/-- Two entries that apply to the same bits agree on the bits of the shorter one. -/
theorem Code.clashes_of_hits {a b : Code} {acc : Nat} (ha : a.hits acc = true) (hb : b.hits acc = true) :
    a.clashes b = true := by
  have low {e : Code} {m : Nat} (he : e.hits acc = true) (hm : m ≤ e.bits) : e.code % 2 ^ m = acc % 2 ^ m := by
    rw [← beq_iff_eq.mp he, Nat.mod_mod_of_dvd _ (Nat.pow_dvd_pow 2 hm)]
  rw [Code.clashes_eq, decide_eq_true_eq, low ha (Nat.min_le_left ..), low hb (Nat.min_le_right ..)]

theorem not_hits_of_prefixFree {a b : Code} {rest : List Code} {acc : Nat} (hp : prefixFree (a :: rest) = true)
    (hb : b ∈ rest) (hhit : b.hits acc = true) : a.hits acc = false := by
  simp only [prefixFree, Bool.and_eq_true, List.all_eq_true] at hp
  have hne := hp.1 b hb
  by_contra ha
  simp [Code.clashes_of_hits (by simpa using ha) hhit] at hne

theorem scan_eq_some_iff {tab : List Code} (hp : prefixFree tab = true) {acc k : Nat} :
    scan tab acc = some k ↔ ∃ e, tab[k]? = some e ∧ e.hits acc = true := by
  refine ⟨scan_hits, ?_⟩
  rintro ⟨e, hk, he⟩
  induction tab generalizing k with
  | nil => simp at hk
  | cons a rest ih =>
    cases k with
    | zero =>
      obtain rfl : a = e := by simpa using hk
      rw [scan, if_pos he]
    | succ k =>
      have hrest : rest[k]? = some e := by simpa using hk
      have ha := not_hits_of_prefixFree hp (List.mem_of_getElem? hrest) he
      simp only [prefixFree, Bool.and_eq_true] at hp
      simp [scan, ha, ih hp.2 hrest]

/-- An entry applies to `2^(n - bits)` of the `2^n` patterns of `n` bits. -/
theorem Code.card_hits {e : Code} {n : Nat} (hn : e.bits ≤ n) (hc : e.code < 2 ^ e.bits) :
    ((Finset.range (2 ^ n)).filter fun acc => e.hits acc = true).card = 2 ^ (n - e.bits) := by
  have hhit (acc : Nat) : e.hits acc = true ↔ acc ≡ e.code [MOD 2 ^ e.bits] := by
    rw [Code.hits, beq_iff_eq, Nat.ModEq, Nat.mod_eq_of_lt hc]
  have hdvd : 2 ^ n % 2 ^ e.bits = 0 := Nat.mod_eq_zero_of_dvd (Nat.pow_dvd_pow 2 hn)
  simp only [hhit]
  rw [← Nat.count_eq_card_filter_range, Nat.count_modEq_card _ (by positivity), hdvd, Nat.pow_div hn (by decide)]
  simp

/-- The patterns of `n` bits that some entry applies to are counted by the sum of the entries' shares, since no pattern
belongs to two entries. -/
theorem card_any_hits {tab : List Code} {n : Nat} (hp : prefixFree tab = true)
    (hw : ∀ e ∈ tab, e.bits ≤ n ∧ e.code < 2 ^ e.bits) :
    ((Finset.range (2 ^ n)).filter fun acc => ∃ e ∈ tab, e.hits acc = true).card = kraftSum n tab := by
  induction tab with
  | nil => simp [kraftSum]
  | cons a rest ih =>
    have hrest : prefixFree rest = true := by
      simp only [prefixFree, Bool.and_eq_true] at hp
      exact hp.2
    obtain ⟨hn, hc⟩ := hw a (by simp)
    have hdisj : Disjoint ((Finset.range (2 ^ n)).filter fun acc => a.hits acc = true)
        ((Finset.range (2 ^ n)).filter fun acc => ∃ e ∈ rest, e.hits acc = true) := by
      refine Finset.disjoint_filter.mpr fun acc _ ha ⟨e, he, hhit⟩ => ?_
      simp [not_hits_of_prefixFree hp he hhit] at ha
    simp only [List.mem_cons, exists_eq_or_imp, Finset.filter_or]
    rw [Finset.card_union_of_disjoint hdisj, Code.card_hits hn hc, ih hrest fun e he => hw e (by simp [he])]
    simp [kraftSum]

/-- A complete code leaves no accumulator without an entry. -/
theorem exists_scan_of_complete {tab : List Code} {n : Nat} (hp : prefixFree tab = true)
    (hw : ∀ e ∈ tab, e.bits ≤ n ∧ e.code < 2 ^ e.bits) (hk : kraftSum n tab = 2 ^ n) (acc : Nat) :
    ∃ k, scan tab acc = some k := by
  have hall : ∀ r ∈ Finset.range (2 ^ n), ∃ e ∈ tab, e.hits r = true :=
    Finset.card_filter_eq_iff.mp (by rw [card_any_hits hp hw, hk, Finset.card_range])
  obtain ⟨e, he, hhit⟩ := hall (acc % 2 ^ n) (by simp [Nat.mod_lt])
  rw [scan_congr (n := n) (b := acc % 2 ^ n) (fun e he => (hw e he).1) (by simp)]
  refine Option.ne_none_iff_exists'.mp fun hnone => ?_
  simp [scan_none hnone e he] at hhit

theorem widthsIn_iff {lo hi : Nat} {tab : List Code} :
    widthsIn lo hi tab = true ↔ ∀ e ∈ tab, lo ≤ e.bits ∧ e.bits ≤ hi ∧ e.code < 2 ^ e.bits := by
  simp [widthsIn, and_assoc]

/-! ### The three tables by index -/

theorem getElem?_eq_some_iff_getD {α : Type} {tab : List α} {d e : α} {k : Nat} :
    tab[k]? = some e ↔ k < tab.length ∧ tab.getD k d = e := by
  by_cases h : k < tab.length <;> simp [h]

theorem lenCodes_getElem? {i : Nat} {e : Code} : lenCodes[i]? = some e ↔ i < 16 ∧ ⟨lenBits i, lenCode i⟩ = e := by
  rw [getElem?_eq_some_iff_getD (d := ⟨0, 0⟩), lenCodes_length]
  exact and_congr_right' (Eq.congr_left (List.getD_map (d := (⟨0, 0, 0, 0⟩ : LenEntry)) ..))

theorem offsTable_getElem? {j : Nat} {e : Code} :
    offsTable[j]? = some e ↔ j < 64 ∧ ⟨offsBits j, offsCode j⟩ = e := by
  rw [getElem?_eq_some_iff_getD (d := ⟨0, 0⟩), offsTable_length]
  rfl

theorem chTable_getElem? {k : Nat} {e : Code} : chTable[k]? = some e ↔ k < 256 ∧ ⟨chBits k, chCode k⟩ = e := by
  rw [getElem?_eq_some_iff_getD (d := ⟨0, 0⟩), chTable_length]
  rfl

theorem scanLen_eq_some_iff {acc i : Nat} : scanLen acc = some i ↔ i < 16 ∧ acc % 2 ^ lenBits i = lenCode i := by
  simp [scanLen, scan_eq_some_iff lenCodes_prefixFree, lenCodes_getElem?, Code.hits, and_assoc]

theorem scanOffs_eq_some_iff {acc j : Nat} : scanOffs acc = some j ↔ j < 64 ∧ acc % 2 ^ offsBits j = offsCode j := by
  simp [scanOffs, scan_eq_some_iff offsTable_prefixFree, offsTable_getElem?, Code.hits, and_assoc]

theorem scanCh_eq_some_iff {acc k : Nat} : scanCh acc = some k ↔ k < 256 ∧ acc % 2 ^ chBits k = chCode k := by
  simp [scanCh, scan_eq_some_iff chTable_prefixFree, chTable_getElem?, Code.hits, and_assoc]

theorem exists_scanCh (acc : Nat) : ∃ k, scanCh acc = some k :=
  exists_scan_of_complete chTable_prefixFree (fun e he => (widthsIn_iff.mp chTable_widths e he).2) chTable_complete acc

theorem lenCode_lt {i : Nat} (hi : i < 16) : lenCode i < 2 ^ lenBits i :=
  (widthsIn_iff.mp lenCodes_widths _ (List.mem_of_getElem? (lenCodes_getElem?.mpr ⟨hi, rfl⟩))).2.2

theorem offsCode_lt {j : Nat} (hj : j < 64) : offsCode j < 2 ^ offsBits j :=
  (widthsIn_iff.mp offsTable_widths _ (List.mem_of_getElem? (offsTable_getElem?.mpr ⟨hj, rfl⟩))).2.2

theorem chCode_lt {k : Nat} (hk : k < 256) : chCode k < 2 ^ chBits k :=
  (widthsIn_iff.mp chTable_widths _ (List.mem_of_getElem? (chTable_getElem?.mpr ⟨hk, rfl⟩))).2.2

/-- The ranges of lengths of the sixteen indices follow one another without a gap (31_rom_tables.md R75 (d)). -/
theorem lenBase_succ : ∀ i < 15, lenBase (i + 1) = lenBase i + 2 ^ exLenBits i := by decide

end Sys2Proof.Rom

namespace Sys2Proof

open Machine

/-! ### Bits at a place

`encode` concatenates fields and `decode` looks at fields; both are read here as fields that stand at places of the
stream, so that a decoded token and its encoding are compared field by field. -/

/-- The bits `b` stand in the stream `T` from bit `lo`. -/
def Bits.At (b : Bits) (T lo : Nat) : Prop := field T lo b.width = b.value

/-- The value of `b` has no bit beyond its width. -/
def Bits.Fits (b : Bits) : Prop := b.value < 2 ^ b.width

theorem field_lt (T lo k : Nat) : field T lo k < 2 ^ k := Nat.mod_lt _ (by positivity)

theorem field_add (T lo k l : Nat) : field T lo (k + l) = field T lo k + 2 ^ k * field T (lo + k) l := by
  simp only [field, Nat.shiftRight_add, Nat.pow_add, Nat.mod_mul, Nat.shiftRight_eq_div_pow _ k]

theorem Bits.at_cat_iff {a b : Bits} (ha : a.Fits) {T lo : Nat} :
    (a.cat b).At T lo ↔ a.At T lo ∧ b.At T (lo + a.width) := by
  simp only [Bits.At, Bits.cat, field_add]
  have hlt := field_lt T lo a.width
  constructor
  · intro h
    have hmod := congrArg (· % 2 ^ a.width) h
    simp only [Nat.add_mul_mod_self_left, Nat.mod_eq_of_lt hlt, Nat.mod_eq_of_lt ha] at hmod
    exact ⟨hmod, Nat.eq_of_mul_eq_mul_left (by positivity) (Nat.add_left_cancel (hmod ▸ h))⟩
  · rintro ⟨h1, h2⟩
    rw [h1, h2]

theorem Bits.Fits.cat {a b : Bits} (ha : a.Fits) (hb : b.Fits) : (a.cat b).Fits := by
  have hmul : 2 ^ a.width * (b.value + 1) ≤ 2 ^ a.width * 2 ^ b.width := Nat.mul_le_mul_left _ hb
  simp only [Bits.Fits, Bits.cat, Nat.pow_add] at *
  rw [Nat.mul_add] at hmul
  omega

/-- Bits stand at the start of a stream that was written with them first, whatever follows. -/
theorem Bits.Fits.at_zero {b : Bits} (hb : b.Fits) (rest : Nat) : b.At (b.value + 2 ^ b.width * rest) 0 := by
  simp [Bits.At, field, Nat.mod_eq_of_lt hb]

theorem Bits.at_zero_iff {b : Bits} {T : Nat} : b.At T 0 ↔ T % 2 ^ b.width = b.value := by
  simp [Bits.At, field]

theorem flag_at_iff {f T : Nat} : (⟨1, f⟩ : Bits).At T 0 ↔ T % 2 = f := by
  simp [Bits.at_zero_iff]

/-! ### The fields of the formats -/

theorem flag_fits {f : Nat} (hf : f < 2) : (⟨1, f⟩ : Bits).Fits := hf

theorem bitVec_fits {n : Nat} (v : BitVec n) : (⟨n, v.toNat⟩ : Bits).Fits := v.isLt

theorem literalCode_fits (b : Byte) : (⟨Rom.chBits b.toNat, Rom.chCode b.toNat⟩ : Bits).Fits := Rom.chCode_lt b.isLt

theorem offsetBits_fits (j : BitVec 6) : (offsetBits j.toNat).Fits := Rom.offsCode_lt j.isLt

theorem lengthCode_fits {i : Nat} (hi : i < 16) : (⟨Rom.lenBits i, Rom.lenCode i⟩ : Bits).Fits := Rom.lenCode_lt hi

theorem lengthBits_fits {i e : Nat} (hi : i < 16) (he : e < 2 ^ Rom.exLenBits i) : (lengthBits i e).Fits :=
  (flag_fits (by decide)).cat ((lengthCode_fits hi).cat he)

/-- The literal scan finds the byte whose code stands behind the flag (31_rom_tables.md R71, R74). -/
theorem literalCode_at_iff {b : Byte} {T lo : Nat} :
    (⟨Rom.chBits b.toNat, Rom.chCode b.toNat⟩ : Bits).At T lo ↔ Rom.scanCh (T >>> lo) = some b.toNat := by
  simp only [Rom.scanCh_eq_some_iff, b.isLt, true_and]
  rfl

theorem offsetBits_at_iff {j : BitVec 6} {T lo : Nat} :
    (offsetBits j.toNat).At T lo ↔ Rom.scanOffs (T >>> lo) = some j.toNat := by
  simp only [Rom.scanOffs_eq_some_iff, j.isLt, true_and]
  rfl

/-- A length part is a flag 1, a code that the length scan finds, and the extra bits behind it (30_encoding.md R54). -/
theorem lengthBits_at_iff {i e T : Nat} (hi : i < 16) :
    (lengthBits i e).At T 0 ↔
      T % 2 = 1 ∧ Rom.scanLen (T >>> 1) = some i ∧ field T (1 + Rom.lenBits i) (Rom.exLenBits i) = e := by
  rw [lengthBits, Bits.at_cat_iff (flag_fits (by decide)), Bits.at_cat_iff (lengthCode_fits hi), flag_at_iff,
    Rom.scanLen_eq_some_iff]
  simp only [hi, true_and, Nat.zero_add]
  rfl

/-! ### Rows by format -/

/-- The row of a format with operands. -/
def Shape.row : Shape → Option Instr
  | .lit8 b => some (.lit8 b)
  | .litp b => literalRows[b.toNat]?
  | .copy2 j low => copyRow 0 0 j low.toNat
  | .copy i e j low => copyRow i e j low.toNat
  | .endOfStream => some .endOfStream
  | .offs j => offsetRows[j.toNat]?

/-- An instruction is the row of its own format and operands. -/
theorem Instr.row_shape (ins : Instr) : ins.shape.row = some ins := by
  cases ins
  case copy2 | copyL1 | copyL2 | copyL3 | copyL4 | copyL5 | copyL6 | copyL7 | copyL8 | copyL9 |
      copyL10 | copyL11 | copyL12 | copyL13 | copyL14 | copyL15 =>
    simp [Instr.shape, Shape.row, copyRow]
  all_goals rfl

theorem Instr.row_of_shape {ins : Instr} {sh : Shape} (h : ins.shape = sh) : sh.row = some ins := h ▸ ins.row_shape

/-- No two rows share their format and operands. -/
theorem Instr.shape_injective : Function.Injective Instr.shape := fun _ b h =>
  Option.some.inj ((Instr.row_of_shape h).symm.trans b.row_shape)

/-- Row `LITP.b` is found at place `b`. -/
theorem literalRows_getElem?_iff {b : Byte} {ins : Instr} : literalRows[b.toNat]? = some ins ↔ ins.shape = .litp b := by
  refine ⟨fun h => ?_, Instr.row_of_shape⟩
  simpa [h] using literalRows_shape b.toNat b.isLt

/-- Row `OFFS.j` is found at place `j`. -/
theorem offsetRows_getElem?_iff {j : BitVec 6} {ins : Instr} : offsetRows[j.toNat]? = some ins ↔ ins.shape = .offs j := by
  refine ⟨fun h => ?_, Instr.row_of_shape⟩
  simpa [h] using offsetRows_shape j.toNat j.isLt

/-- The format of the copy of length index `i` (30_encoding.md R56, R57). -/
def copyShape (i e : Nat) (j : BitVec 6) (low : Nat) : Shape :=
  if i = 0 then .copy2 j (BitVec.ofNat 2 low) else .copy i e j (BitVec.ofNat 6 low)

theorem exLenBits_eq_zero : ∀ i < 8, Rom.exLenBits i = 0 := by decide

/-- Every length index with extra bits that fit it has a row, of the copy's format. -/
theorem exists_copyRow {i e : Nat} (hi : i < 16) (he : e < 2 ^ Rom.exLenBits i) (j : BitVec 6) (low : Nat) :
    ∃ ins, copyRow i e j low = some ins ∧ ins.shape = copyShape i e j low := by
  rcases Nat.lt_or_ge i 8 with h | h
  · obtain rfl : e = 0 := by simpa [exLenBits_eq_zero i h] using he
    interval_cases i <;> exact ⟨_, rfl, rfl⟩
  · have hmod : copyShape i e j low = copyShape i (e % 2 ^ Rom.exLenBits i) j low := by rw [Nat.mod_eq_of_lt he]
    rw [hmod]
    interval_cases i <;> exact ⟨_, rfl, rfl⟩

theorem copyRow_shape {i e low : Nat} {j : BitVec 6} {ins : Instr} (hi : i < 16) (he : e < 2 ^ Rom.exLenBits i)
    (h : copyRow i e j low = some ins) : ins.shape = copyShape i e j low := by
  obtain ⟨ins', hrow, hs⟩ := exists_copyRow hi he j low
  obtain rfl : ins' = ins := Option.some.inj (hrow.symm.trans h)
  exact hs

/-! ### The fields of a copy -/

/-- Values that the fields of a copy can have in the context `c`: length index, extra bits and low distance bits, without
the end of the stream (30_encoding.md R54 to R57, R61 (c)). -/
structure CopyFields (c : Ctx) (i e low : Nat) : Prop where
  index_lt : i < 16
  extra_lt : e < 2 ^ Rom.exLenBits i
  length_ne : lengthOf i e ≠ Config.sentinelLength
  low_lt : low < 2 ^ lowWidth c.dictSizeCode.toNat (lengthOf i e)

/-- The bits of a copy: length part, offset code, low distance bits. -/
def copyBits (c : Ctx) (i e : Nat) (j : BitVec 6) (low : Nat) : Bits :=
  (lengthBits i e).cat ((offsetBits j.toNat).cat ⟨lowWidth c.dictSizeCode.toNat (lengthOf i e), low⟩)

theorem lowWidth_lengthOf_zero (d : Nat) : lowWidth d (lengthOf 0 0) = 2 := rfl

/-- Only length index 0 has length 2. -/
theorem lowWidth_lengthOf_pos {i : Nat} (hi : i < 16) (hpos : 0 < i) (d e : Nat) : lowWidth d (lengthOf i e) = d :=
  if_neg (by have := lenBase_ge_three i hi hpos; unfold lengthOf; omega)

section
variable {c : Ctx} {i e low : Nat}

theorem CopyFields.copyBits_fits (h : CopyFields c i e low) (j : BitVec 6) : (copyBits c i e j low).Fits :=
  (lengthBits_fits h.index_lt h.extra_lt).cat ((offsetBits_fits j).cat h.low_lt)

theorem CopyFields.at_iff (h : CopyFields c i e low) {j : BitVec 6} {T : Nat} :
    (copyBits c i e j low).At T 0 ↔
      (lengthBits i e).At T 0 ∧ Rom.scanOffs (T >>> lengthPartWidth i) = some j.toNat ∧
        field T (lengthPartWidth i + Rom.offsBits j.toNat) (lowWidth c.dictSizeCode.toNat (lengthOf i e)) = low := by
  rw [copyBits, Bits.at_cat_iff (lengthBits_fits h.index_lt h.extra_lt), Bits.at_cat_iff (offsetBits_fits j),
    lengthBits_width, Nat.zero_add, offsetBits_at_iff]
  rfl

/-- A copy of length index 0 has no extra bits and 2 low bits; any other one has as many low bits as the dictionary's size
gives, at most 6. -/
theorem CopyFields.zero_or_pos (hc : c.sizeLegal = true) (h : CopyFields c i e low) :
    (i = 0 ∧ e = 0 ∧ low < 2 ^ 2) ∨ (i ≠ 0 ∧ low < 2 ^ c.dictSizeCode.toNat ∧ low < 2 ^ 6) := by
  obtain ⟨hi, he, -, hlow⟩ := h
  rcases Nat.eq_zero_or_pos i with rfl | hpos
  · obtain rfl : e = 0 := by simpa [exLenBits_eq_zero] using he
    exact .inl ⟨rfl, rfl, hlow⟩
  · rw [lowWidth_lengthOf_pos hi hpos] at hlow
    simp only [Ctx.sizeLegal, Bool.and_eq_true, decide_eq_true_eq] at hc
    exact .inr ⟨hpos.ne', hlow, Nat.lt_of_lt_of_le hlow (Nat.pow_le_pow_right (by decide) hc.2)⟩

variable {ins : Instr} {j : BitVec 6} (hc : c.sizeLegal = true) (h : CopyFields c i e low)
  (hs : ins.shape = copyShape i e j low)
include hc h hs

theorem CopyFields.encode_eq : encode c ins = copyBits c i e j low := by
  rcases h.zero_or_pos hc with ⟨rfl, rfl, hlow⟩ | ⟨hne, -, hlow⟩
  · have hs2 : ins.shape = .copy2 j (BitVec.ofNat 2 low) := hs
    simp only [encode, hs2, copyBits, lowWidth_lengthOf_zero, BitVec.toNat_ofNat, Nat.mod_eq_of_lt hlow]
  · rw [copyShape, if_neg hne] at hs
    simp only [encode, hs, copyBits, lowWidth_lengthOf_pos h.index_lt (Nat.pos_of_ne_zero hne), BitVec.toNat_ofNat,
      Nat.mod_eq_of_lt hlow]

theorem CopyFields.wellFormed (ha : c.atOffset = false) : wellFormed c ins = true := by
  rcases h.zero_or_pos hc with ⟨rfl, -, -⟩ | ⟨hne, hw, hlow⟩
  · have hs2 : ins.shape = .copy2 j (BitVec.ofNat 2 low) := hs
    simp [Sys2Proof.wellFormed, hc, ha, hs2]
  · rw [copyShape, if_neg hne] at hs
    have hmod : (BitVec.ofNat 6 low).toNat = low := Nat.mod_eq_of_lt hlow
    simp only [Sys2Proof.wellFormed, hc, ha, hs, hmod, hw]
    simp [h.length_ne]

theorem CopyFields.copyOperands_eq :
    copyOperands c ins = some ⟨i, lengthOf i e, j.toNat,
      distance (lowWidth c.dictSizeCode.toNat (lengthOf i e)) j.toNat low⟩ := by
  rcases h.zero_or_pos hc with ⟨rfl, rfl, hlow⟩ | ⟨hne, -, hlow⟩
  · have hs2 : ins.shape = .copy2 j (BitVec.ofNat 2 low) := hs
    simp only [copyOperands, hs2, lowWidth_lengthOf_zero, BitVec.toNat_ofNat, Nat.mod_eq_of_lt hlow]
    rfl
  · rw [copyShape, if_neg hne] at hs
    simp only [copyOperands, hs, lowWidth_lengthOf_pos h.index_lt (Nat.pos_of_ne_zero hne), BitVec.toNat_ofNat,
      Nat.mod_eq_of_lt hlow]

end

/-- The operands of a `COPY2` are fields of a copy in every context. -/
theorem CopyFields.of_copy2 (c : Ctx) (low : BitVec 2) : CopyFields c 0 0 low.toNat :=
  ⟨by decide, by decide, by decide, low.isLt⟩

/-- The operands of a well-formed `COPY` are fields of a copy, and its format is that of their row. -/
theorem CopyFields.of_wellFormed {c : Ctx} {ins : Instr} {i e : Nat} {j low : BitVec 6}
    (hw : Sys2Proof.wellFormed c ins = true) (hs : ins.shape = .copy i e j low) :
    CopyFields c i e low.toNat ∧ ins.shape = copyShape i e j low.toNat := by
  obtain ⟨hpos, hi, he⟩ := Instr.copy_index_lt hs
  simp only [Sys2Proof.wellFormed, hs, Bool.and_eq_true, bne_iff_ne, decide_eq_true_eq] at hw
  obtain ⟨-, ⟨-, hne⟩, hlow⟩ := hw
  refine ⟨⟨hi, he, hne, ?_⟩, ?_⟩
  · rwa [lowWidth_lengthOf_pos hi hpos]
  · rw [hs, copyShape, if_neg hpos.ne', BitVec.ofNat_toNat, BitVec.setWidth_eq]

/-- Length 519 has one encoding, the end of the stream (30_encoding.md R61 (c)). -/
theorem sentinel_fields {i e : Nat} (hi : i < 16) (he : e < 2 ^ Rom.exLenBits i)
    (hlen : lengthOf i e = Config.sentinelLength) : i = 15 ∧ e = 255 := by
  have hbound : ∀ k < 15, Rom.lenBase k + 2 ^ Rom.exLenBits k ≤ 264 := by decide
  have hlen' : Rom.lenBase i + e = 519 := hlen
  rcases Nat.lt_or_ge i 15 with h | h
  · have := hbound i h
    omega
  · obtain rfl : i = 15 := by omega
    exact ⟨rfl, Nat.add_left_cancel (n := 264) hlen'⟩

/-! ### What stands at the start of a stream -/

/-- The instruction `ins` stands at the start of `T`, read in the context `c`: for each format, its fields
(30_encoding.md R51 to R57). -/
inductive Reads (c : Ctx) (T : Nat) (ins : Instr) : Prop
  | offs (j : BitVec 6) (ha : c.atOffset = true) (hs : ins.shape = .offs j) (hT : (offsetBits j.toNat).At T 0)
  | lit8 (b : Byte) (ha : c.atOffset = false) (hm : c.literalModeFlag = 0) (hs : ins.shape = .lit8 b) (hf : T % 2 = 0)
      (hT : field T 1 8 = b.toNat)
  | litp (b : Byte) (ha : c.atOffset = false) (hm : c.literalModeFlag = 1) (hs : ins.shape = .litp b) (hf : T % 2 = 0)
      (hT : Rom.scanCh (T >>> 1) = some b.toNat)
  | endOfStream (ha : c.atOffset = false) (hs : ins.shape = .endOfStream) (hT : (lengthBits 15 255).At T 0)
  | copy (i e : Nat) (j : BitVec 6) (low : Nat) (ha : c.atOffset = false) (h : CopyFields c i e low)
      (hs : ins.shape = copyShape i e j low) (hT : (copyBits c i e j low).At T 0)

section
variable {c : Ctx} {T : Nat} {ins : Instr}

theorem rowOr_eq_ok_iff {r : Option Instr} : rowOr r = .ok ins ↔ r = some ins := by
  cases r <;> simp [rowOr]

theorem exists_toNat_eq {n k : Nat} (h : k < 2 ^ n) : ∃ v : BitVec n, v.toNat = k :=
  ⟨BitVec.ofNatLT k h, BitVec.toNat_ofNatLT k h⟩

theorem mode_one_of_ne_zero {m : BitVec 1} (h : m ≠ 0) : m = 1 := by
  revert m
  decide

theorem reads_of_decodeOffset (ha : c.atOffset = true) (h : decodeOffset T = .ok ins) : Reads c T ins := by
  unfold decodeOffset at h
  split at h
  · cases h
  · rename_i k hk
    obtain ⟨j, rfl⟩ := exists_toNat_eq (n := 6) (Rom.scanOffs_eq_some_iff.mp hk).1
    exact .offs j ha (offsetRows_getElem?_iff.mp (rowOr_eq_ok_iff.mp h)) (offsetBits_at_iff.mpr hk)

theorem reads_of_decodeLiteral (ha : c.atOffset = false) (hf : T % 2 = 0) (h : decodeLiteral c T = .ok ins) :
    Reads c T ins := by
  unfold decodeLiteral at h
  split at h
  · cases h
    exact .lit8 _ ha ‹_› rfl hf (Nat.mod_eq_of_lt (field_lt T 1 8)).symm
  · split at h
    · cases h
    · rename_i hm _ k hk
      obtain ⟨b, rfl⟩ := exists_toNat_eq (n := 8) (Rom.scanCh_eq_some_iff.mp hk).1
      exact .litp b ha (mode_one_of_ne_zero hm) (literalRows_getElem?_iff.mp (rowOr_eq_ok_iff.mp h)) hf hk

theorem reads_of_decodeCopy {i e : Nat} (ha : c.atOffset = false) (hi : i < 16) (he : e < 2 ^ Rom.exLenBits i)
    (hne : lengthOf i e ≠ Config.sentinelLength) (hlen : (lengthBits i e).At T 0)
    (h : decodeCopy c T (lengthPartWidth i) i e = .ok ins) : Reads c T ins := by
  unfold decodeCopy at h
  split at h
  · cases h
  · rename_i k hk
    obtain ⟨j, rfl⟩ := exists_toNat_eq (n := 6) (Rom.scanOffs_eq_some_iff.mp hk).1
    rw [BitVec.ofNat_toNat, BitVec.setWidth_eq] at h
    have hlow := field_lt T (lengthPartWidth i + Rom.offsBits j.toNat) (lowWidth c.dictSizeCode.toNat (lengthOf i e))
    have hfields : CopyFields c i e _ := ⟨hi, he, hne, hlow⟩
    have hs := copyRow_shape hi he (rowOr_eq_ok_iff.mp h)
    exact .copy i e j _ ha hfields hs (hfields.at_iff.mpr ⟨hlen, hk, rfl⟩)

theorem reads_of_decodeLength (ha : c.atOffset = false) (hf : T % 2 = 1) (h : decodeLength c T = .ok ins) :
    Reads c T ins := by
  unfold decodeLength at h
  split at h
  · cases h
  · rename_i i hi
    have hlt := (Rom.scanLen_eq_some_iff.mp hi).1
    have he := field_lt T (1 + Rom.lenBits i) (Rom.exLenBits i)
    have hlen := (lengthBits_at_iff hlt).mpr ⟨hf, hi, rfl⟩
    simp only at h
    generalize field T (1 + Rom.lenBits i) (Rom.exLenBits i) = e at h he hlen
    split at h
    · cases h
      obtain ⟨rfl, rfl⟩ := sentinel_fields hlt he ‹_›
      exact .endOfStream ha rfl hlen
    · exact reads_of_decodeCopy ha hlt he ‹_› hlen h

/-- What the decoder answers stands at the start of the stream. -/
theorem reads_of_decode (h : decode c T = .ok ins) : Reads c T ins := by
  unfold decode at h
  split at h
  · exact reads_of_decodeOffset ‹_› h
  · have ha : c.atOffset = false := by simpa using ‹¬c.atOffset = true›
    split at h
    · exact reads_of_decodeLiteral ha ‹_› h
    · exact reads_of_decodeLength ha (by omega) h

theorem decodeLength_of_copyBits {i e low : Nat} {j : BitVec 6} (h : CopyFields c i e low)
    (hs : ins.shape = copyShape i e j low) (hT : (copyBits c i e j low).At T 0) : decodeLength c T = .ok ins := by
  obtain ⟨hlen, hoffs, hlow⟩ := h.at_iff.mp hT
  obtain ⟨-, hscan, hextra⟩ := (lengthBits_at_iff h.index_lt).mp hlen
  obtain ⟨ins', hrow, hs'⟩ := exists_copyRow h.index_lt h.extra_lt j low
  obtain rfl : ins' = ins := Instr.shape_injective (hs'.trans hs.symm)
  simp [decodeLength, hscan, hextra, h.length_ne, decodeCopy, hoffs, hlow, hrow, rowOr]

/-- The decoder answers what stands at the start of the stream. -/
theorem Reads.decode_eq (h : Reads c T ins) : decode c T = .ok ins := by
  cases h with
  | offs j ha hs hT =>
    have hscan : Rom.scanOffs T = some j.toNat := by simpa using offsetBits_at_iff.mp hT
    simp [decode, ha, decodeOffset, hscan, offsetRows_getElem?_iff.mpr hs, rowOr]
  | lit8 b ha hm hs hf hT =>
    obtain rfl : Instr.lit8 b = ins := Instr.shape_injective hs.symm
    simp [decode, ha, hf, decodeLiteral, hm, hT]
  | litp b ha hm hs hf hT =>
    simp [decode, ha, hf, decodeLiteral, hm, hT, literalRows_getElem?_iff.mpr hs, rowOr]
  | endOfStream ha hs hT =>
    obtain rfl : Instr.endOfStream = ins := Instr.shape_injective hs.symm
    obtain ⟨hf, hscan, hextra⟩ := (lengthBits_at_iff (by decide)).mp hT
    have hlen : lengthOf 15 255 = Config.sentinelLength := rfl
    simp [decode, ha, hf, decodeLength, hscan, hextra, hlen]
  | copy i e j low ha h hs hT =>
    have hf := ((lengthBits_at_iff h.index_lt).mp (h.at_iff.mp hT).1).1
    simp [decode, ha, hf, decodeLength_of_copyBits h hs hT]

/-- What stands at the start of the stream is well formed, and its encoding stands there. -/
theorem Reads.wellFormed_and_encode_at (hc : c.sizeLegal = true) (h : Reads c T ins) :
    wellFormed c ins = true ∧ (encode c ins).At T 0 := by
  cases h with
  | offs j ha hs hT => exact ⟨by simp [wellFormed, hc, ha, hs], by simpa only [encode, hs] using hT⟩
  | lit8 b ha hm hs hf hT =>
    refine ⟨by simp [wellFormed, hc, ha, hs, hm], ?_⟩
    simp only [encode, hs, Bits.at_cat_iff (flag_fits (by decide : 0 < 2)), flag_at_iff]
    exact ⟨hf, hT⟩
  | litp b ha hm hs hf hT =>
    refine ⟨by simp [wellFormed, hc, ha, hs, hm], ?_⟩
    simp only [encode, hs, Bits.at_cat_iff (flag_fits (by decide : 0 < 2)), flag_at_iff, literalCode_at_iff]
    exact ⟨hf, hT⟩
  | endOfStream ha hs hT => exact ⟨by simp [wellFormed, hc, ha, hs], by simpa only [encode, hs] using hT⟩
  | copy i e j low ha h hs hT => exact ⟨h.wellFormed hc hs ha, h.encode_eq hc hs ▸ hT⟩

end

theorem Ctx.sizeLegal_of_wellFormed {c : Ctx} {ins : Instr} (h : wellFormed c ins = true) : c.sizeLegal = true :=
  (Bool.and_eq_true _ _ ▸ h).1

/-- A well-formed instruction stands wherever its encoding does. -/
theorem reads_of_encode_at {c : Ctx} {T : Nat} {ins : Instr} (hw : wellFormed c ins = true)
    (hT : (encode c ins).At T 0) : Reads c T ins := by
  have hc := Ctx.sizeLegal_of_wellFormed hw
  cases hs : ins.shape with
  | lit8 b =>
    simp only [encode, hs, Bits.at_cat_iff (flag_fits (by decide : 0 < 2)), flag_at_iff] at hT
    obtain ⟨ha, hm⟩ : c.atOffset = false ∧ c.literalModeFlag = 0 := by simpa [wellFormed, hc, hs] using hw
    exact .lit8 b ha hm hs hT.1 hT.2
  | litp b =>
    simp only [encode, hs, Bits.at_cat_iff (flag_fits (by decide : 0 < 2)), flag_at_iff, literalCode_at_iff] at hT
    obtain ⟨ha, hm⟩ : c.atOffset = false ∧ c.literalModeFlag = 1 := by simpa [wellFormed, hc, hs] using hw
    exact .litp b ha hm hs hT.1 hT.2
  | copy2 j low =>
    have hs' : ins.shape = copyShape 0 0 j low.toNat := by simpa [copyShape] using hs
    have h := CopyFields.of_copy2 c low
    exact .copy 0 0 j low.toNat (by simpa [wellFormed, hc, hs] using hw) h hs' (h.encode_eq hc hs' ▸ hT)
  | copy i e j low =>
    obtain ⟨h, hs'⟩ := CopyFields.of_wellFormed hw hs
    obtain ⟨⟨ha, -⟩, -⟩ : (c.atOffset = false ∧ _) ∧ _ := by simpa [wellFormed, hc, hs] using hw
    exact .copy i e j low.toNat ha h hs' (h.encode_eq hc hs' ▸ hT)
  | endOfStream =>
    exact .endOfStream (by simpa [wellFormed, hc, hs] using hw) hs (by simpa only [encode, hs] using hT)
  | offs j =>
    exact .offs j (by simpa [wellFormed, hc, hs] using hw) hs (by simpa only [encode, hs] using hT)

/-- The encoding of a well-formed instruction has no bit beyond its width. -/
theorem encode_fits {c : Ctx} {ins : Instr} (hw : wellFormed c ins = true) : (encode c ins).Fits := by
  have hc := Ctx.sizeLegal_of_wellFormed hw
  cases hs : ins.shape with
  | lit8 b => simpa only [encode, hs] using (flag_fits (by decide)).cat (bitVec_fits b)
  | litp b => simpa only [encode, hs] using (flag_fits (by decide)).cat (literalCode_fits b)
  | copy2 j low =>
    simpa only [encode, hs] using
      (lengthBits_fits (by decide) (by decide)).cat ((offsetBits_fits j).cat (bitVec_fits low))
  | copy i e j low =>
    obtain ⟨h, hs'⟩ := CopyFields.of_wellFormed hw hs
    exact h.encode_eq hc hs' ▸ h.copyBits_fits j
  | endOfStream => simpa only [encode, hs] using lengthBits_fits (i := 15) (e := 255) (by decide) (by decide)
  | offs j => simpa only [encode, hs] using offsetBits_fits j

/-- Settles O47: the encoding of a well-formed instruction stands at the start of the stream, whatever follows it, and the
decoder answers what stands there. -/
theorem decodeOfEncodeIsTheInstruction : Obligations.DecodeOfEncodeIsTheInstruction := fun _ _ rest hw =>
  (reads_of_encode_at hw ((encode_fits hw).at_zero rest)).decode_eq

/-- Settles O48: what the decoder answers stands at the start of the stream, field by field, so it is well formed and its
encoding stands there. -/
theorem decodedBitsAreTheEncoding : Obligations.DecodedBitsAreTheEncoding := by
  intro c T i hc h
  obtain ⟨hw, hT⟩ := (reads_of_decode h).wellFormed_and_encode_at hc
  exact ⟨hw, Bits.at_zero_iff.mp hT⟩

/-! ### Widths and literals -/

/-- Settles O52, by the format of the instruction. -/
theorem encodedWidthIsInRange : Obligations.EncodedWidthIsInRange := by
  intro ins
  cases hs : ins.shape with
  | lit8 b =>
    obtain rfl : Instr.lit8 b = ins := Instr.shape_injective hs.symm
    exact Laws.EncodedWidth.lit8 b
  | litp b => exact Laws.EncodedWidth.of_litp hs
  | copy2 j low => exact Laws.EncodedWidth.of_copy2 hs
  | copy i e j low => exact Laws.EncodedWidth.of_copy hs (Instr.copy_index_lt hs).2.1
  | endOfStream =>
    obtain rfl : Instr.endOfStream = ins := Instr.shape_injective hs.symm
    exact Laws.EncodedWidth.endOfStream
  | offs j => exact Laws.EncodedWidth.of_offs hs

theorem exists_litp_row (b : Byte) : ∃ ins : Instr, ins.shape = .litp b := by
  obtain ⟨ins, -, hs⟩ := Option.map_eq_some_iff.mp (literalRows_shape b.toNat b.isLt)
  exact ⟨ins, by simpa using hs⟩

/-- Settles O53: in mode 0 the 8 bits behind the flag are the byte; in mode 1 the literal code is complete, so its scan
finds a byte. -/
theorem literalModeChoosesTheFormat : Obligations.LiteralModeChoosesTheFormat := by
  intro c T ha hf
  refine ⟨fun hm => (Reads.lit8 _ ha hm rfl hf ?_).decode_eq, fun hm => ?_⟩
  · simp [field, Nat.shiftRight_eq_div_pow]
  · obtain ⟨k, hk⟩ := Rom.exists_scanCh (T >>> 1)
    obtain ⟨b, rfl⟩ := exists_toNat_eq (n := 8) (Rom.scanCh_eq_some_iff.mp hk).1
    obtain ⟨ins, hs⟩ := exists_litp_row b
    exact ⟨ins, b, (Reads.litp b ha hm hs hf hk).decode_eq, hs⟩

/-! ### The assembler's copy -/

/-- The index found has the largest base not above `L`. -/
theorem lengthIndex_spec {L : Nat} (hL : Rom.lenBase 0 ≤ L) (n : Nat) :
    lengthIndex (n + 1) L ≤ n ∧ Rom.lenBase (lengthIndex (n + 1) L) ≤ L ∧
      (lengthIndex (n + 1) L < n → L < Rom.lenBase (lengthIndex (n + 1) L + 1)) := by
  induction n with
  | zero => simp [lengthIndex, hL]
  | succ n ih =>
    obtain ⟨hle, hbase, hnext⟩ := ih
    rw [lengthIndex]
    split
    · exact ⟨Nat.le_refl _, ‹_›, fun h => absurd h (Nat.lt_irrefl _)⟩
    · refine ⟨Nat.le_succ_of_le hle, hbase, fun h => ?_⟩
      rcases Nat.lt_or_eq_of_le hle with hlt | heq
      · exact hnext hlt
      · rw [heq]
        omega

/-- Every length up to 518 is the base of its index plus an amount that fits the index's extra bits
(31_rom_tables.md R75 (d)). -/
theorem lengthIndex_fields {L : Nat} (h2 : 2 ≤ L) (h518 : L ≤ 518) :
    lengthIndex 16 L < 16 ∧ lengthOf (lengthIndex 16 L) (L - Rom.lenBase (lengthIndex 16 L)) = L ∧
      L - Rom.lenBase (lengthIndex 16 L) < 2 ^ Rom.exLenBits (lengthIndex 16 L) := by
  obtain ⟨hle, hbase, hnext⟩ := lengthIndex_spec (L := L) h2 15
  generalize lengthIndex 16 L = i at *
  refine ⟨Nat.lt_succ_of_le hle, Nat.add_sub_cancel' hbase, ?_⟩
  rcases Nat.lt_or_eq_of_le hle with hlt | rfl
  · have := hnext hlt
    rw [Rom.lenBase_succ i hlt] at this
    omega
  · have hlast : Rom.lenBase 15 = 264 ∧ 2 ^ Rom.exLenBits 15 = 256 := by decide
    omega

theorem distance_div_mod (w D : Nat) : distance w (D >>> w) (D % 2 ^ w) = D := by
  rw [distance, Nat.shiftLeft_eq, Nat.shiftRight_eq_div_pow, Nat.mul_comm]
  exact Nat.div_add_mod D _

/-- The offset index of distance `D` fits its 6 bits exactly where `D` is below 64 times the low field's range. -/
theorem shiftRight_le_iff {w D : Nat} : D >>> w ≤ 63 ↔ D < 64 * 2 ^ w := by
  rw [Nat.shiftRight_eq_div_pow, ← Nat.div_lt_iff_lt_mul (by positivity), Nat.lt_succ_iff]

/-- Where the offset index fits, `COPY L, D` is the row of the fields that `L` and `D` split into. -/
theorem asmCopy_fields {c : Ctx} {L D : Nat} (h2 : 2 ≤ L) (h518 : L ≤ 518)
    (hj : D >>> lowWidth c.dictSizeCode.toNat L ≤ 63) :
    ∃ ins i e low, ∃ j : BitVec 6, asmCopy c L D = some ins ∧ CopyFields c i e low ∧
      ins.shape = copyShape i e j low ∧ lengthOf i e = L ∧ distance (lowWidth c.dictSizeCode.toNat L) j.toNat low = D := by
  obtain ⟨hi, hlen, he⟩ := lengthIndex_fields h2 h518
  obtain ⟨j, hjD⟩ := exists_toNat_eq (n := 6) (Nat.lt_succ_of_le hj)
  obtain ⟨ins, hrow, hs⟩ := exists_copyRow hi he j (D % 2 ^ lowWidth c.dictSizeCode.toNat L)
  refine ⟨ins, _, _, _, j, ?_, ⟨hi, he, ?_, ?_⟩, hs, hlen, by rw [hjD, distance_div_mod]⟩
  · have hj6 : BitVec.ofNat 6 (D >>> lowWidth c.dictSizeCode.toNat L) = j := by simp [← hjD]
    simp [asmCopy, h2, h518, hj, hj6, hrow]
  · rw [hlen]
    exact (Nat.lt_succ_of_le h518).ne
  · rw [hlen]
    exact Nat.mod_lt _ (by positivity)

/-- Settles O54: the assembler's length index and extra bits, offset index and low bits are fields of a copy, and a copy's
operands are read back from them. -/
theorem assembledCopyMeansItsOperands : Obligations.AssembledCopyMeansItsOperands := by
  intro c L D hc ha h2 h518
  change (D < 64 * 2 ^ lowWidth c.dictSizeCode.toNat L → _) ∧ (64 * 2 ^ lowWidth c.dictSizeCode.toNat L ≤ D → _)
  refine ⟨fun hD => ?_, fun hD => ?_⟩
  · obtain ⟨ins, i, e, low, j, hasm, h, hs, hlen, hdist⟩ := asmCopy_fields h2 h518 (shiftRight_le_iff.mpr hD)
    exact ⟨ins, _, hasm, h.wellFormed hc hs ha, h.copyOperands_eq hc hs, hlen, hlen ▸ hdist⟩
  · have hj : ¬D >>> lowWidth c.dictSizeCode.toNat L ≤ 63 := shiftRight_le_iff.not.mpr (Nat.not_lt.mpr hD)
    simp [asmCopy, hj]

/-- Settles O55: the seven words are decoded by evaluation. -/
theorem writtenOutWordsDecode : Obligations.WrittenOutWordsDecode := by
  unfold Obligations.WrittenOutWordsDecode
  decide

end Sys2Proof

namespace Sys2Proof.Rom

/-! ### Complete codes and lengths -/

theorem exists_scanLen (acc : Nat) : ∃ i, scanLen acc = some i :=
  exists_scan_of_complete lenCodes_prefixFree (fun e he => (widthsIn_iff.mp lenCodes_widths e he).2)
    lenCodes_complete acc

theorem exists_scanOffs (acc : Nat) : ∃ j, scanOffs acc = some j :=
  exists_scan_of_complete offsTable_prefixFree (fun e he => (widthsIn_iff.mp offsTable_widths e he).2)
    offsTable_complete acc

/-- In a prefix-free code that is complete one entry applies, the one that the scan finds (31_rom_tables.md R75 (a), (b)). -/
theorem existsUnique_entry {tab : List Code} {lo n : Nat} (hp : prefixFree tab = true)
    (hw : widthsIn lo n tab = true) (hc : kraftSum n tab = 2 ^ n) (acc : Nat) :
    ∃! k : Nat, ∃ e : Code, tab[k]? = some e ∧ acc % 2 ^ e.bits = e.code := by
  have happlies {k : Nat} :
      (∃ e : Code, tab[k]? = some e ∧ acc % 2 ^ e.bits = e.code) ↔ scan tab acc = some k := by
    simp only [scan_eq_some_iff hp, Code.hits, beq_iff_eq]
  obtain ⟨k, hk⟩ := exists_scan_of_complete hp (fun e he => (widthsIn_iff.mp hw e he).2) hc acc
  exact ⟨k, happlies.mpr hk, fun k' hk' => Option.some.inj ((happlies.mp hk').symm.trans hk)⟩

/-- The lengths of an index end before those of every later index begin (31_rom_tables.md R75 (d)). -/
theorem lenBase_add_le {i j : Nat} (hij : i < j) (hj : j < 16) : lenBase i + 2 ^ exLenBits i ≤ lenBase j := by
  induction j, hij using Nat.le_induction with
  | base => exact (lenBase_succ i (by omega)).ge
  | succ j _ ih =>
    rw [lenBase_succ j (by omega)]
    exact Nat.le_add_right_of_le (ih (by omega))

/-- Two indices with extra values in range that give one length are the same index. -/
theorem index_eq_of_length_eq {i j e f : Nat} (hi : i < 16) (hj : j < 16) (he : e < 2 ^ exLenBits i)
    (hf : f < 2 ^ exLenBits j) (h : lenBase i + e = lenBase j + f) : i = j := by
  rcases Nat.lt_trichotomy i j with hlt | heq | hgt
  · have := lenBase_add_le hlt hj
    omega
  · exact heq
  · have := lenBase_add_le hgt hi
    omega

end Sys2Proof.Rom

namespace Sys2Proof

open Machine

/-- Settles O50: each of the three tables is prefix-free and complete. -/
theorem exactlyOneCodeApplies : Obligations.ExactlyOneCodeApplies := by
  rintro tab (rfl | rfl | rfl)
  · exact Rom.existsUnique_entry Rom.lenCodes_prefixFree Rom.lenCodes_widths Rom.lenCodes_complete
  · exact Rom.existsUnique_entry Rom.offsTable_prefixFree Rom.offsTable_widths Rom.offsTable_complete
  · exact Rom.existsUnique_entry Rom.chTable_prefixFree Rom.chTable_widths Rom.chTable_complete

/-- Every length up to 518 is that of a copy; 519 is that of the end of the stream. -/
theorem exists_length_fields {L : Nat} (h2 : 2 ≤ L) (h519 : L ≤ 519) :
    ∃ i e, i < 16 ∧ e < 2 ^ Rom.exLenBits i ∧ Rom.lenBase i + e = L := by
  rcases Nat.lt_or_eq_of_le h519 with hlt | rfl
  · obtain ⟨hi, hlen, he⟩ := lengthIndex_fields h2 (Nat.le_of_lt_succ hlt)
    exact ⟨_, _, hi, he, hlen⟩
  · exact ⟨15, 255, by decide⟩

/-- Settles O51: the ranges of lengths of the sixteen indices cover 2 to 519 and do not overlap. -/
theorem eachLengthHasOneEncoding : Obligations.EachLengthHasOneEncoding := by
  intro L h2 h519
  obtain ⟨i, e, hi, he, hL⟩ := exists_length_fields h2 h519
  refine ⟨(i, e), ⟨hi, he, hL⟩, ?_⟩
  rintro ⟨j, f⟩ ⟨hj, hf, hL'⟩
  obtain rfl : j = i := Rom.index_eq_of_length_eq hj hi hf he (hL'.trans hL.symm)
  exact Prod.ext rfl (Nat.add_left_cancel (hL'.trans hL.symm))

/-! ### Something stands at the start of every stream -/

theorem exists_offs_row (j : BitVec 6) : ∃ ins : Instr, ins.shape = .offs j := by
  obtain ⟨ins, -, hs⟩ := Option.map_eq_some_iff.mp (offsetRows_shape j.toNat j.isLt)
  exact ⟨ins, by simpa using hs⟩

theorem exists_scanOffs_index (T : Nat) : ∃ j : BitVec 6, Rom.scanOffs T = some j.toNat := by
  obtain ⟨k, hk⟩ := Rom.exists_scanOffs T
  obtain ⟨j, rfl⟩ := exists_toNat_eq (n := 6) (Rom.scanOffs_eq_some_iff.mp hk).1
  exact ⟨j, hk⟩

section
variable {c : Ctx} {T : Nat}

theorem exists_decode_atOffset (ha : c.atOffset = true) : ∃ ins, decode c T = .ok ins := by
  obtain ⟨j, hj⟩ := exists_scanOffs_index T
  obtain ⟨ins, hs⟩ := exists_offs_row j
  exact ⟨ins, (Reads.offs j ha hs (offsetBits_at_iff.mpr hj)).decode_eq⟩

theorem exists_decode_literal (ha : c.atOffset = false) (hf : T % 2 = 0) : ∃ ins, decode c T = .ok ins := by
  obtain ⟨hmode0, hmode1⟩ := literalModeChoosesTheFormat c T ha hf
  by_cases hm : c.literalModeFlag = 0
  · exact ⟨_, hmode0 hm⟩
  · obtain ⟨ins, -, hdecode, -⟩ := hmode1 (mode_one_of_ne_zero hm)
    exact ⟨ins, hdecode⟩

/-- Behind a length part that is not the end of the stream the offset scan finds a row. -/
theorem exists_decode_copy {i e : Nat} (ha : c.atOffset = false) (hi : i < 16) (he : e < 2 ^ Rom.exLenBits i)
    (hne : lengthOf i e ≠ Config.sentinelLength) (hlen : (lengthBits i e).At T 0) : ∃ ins, decode c T = .ok ins := by
  obtain ⟨j, hj⟩ := exists_scanOffs_index (T >>> lengthPartWidth i)
  obtain ⟨low, hlow⟩ : ∃ low, field T (lengthPartWidth i + Rom.offsBits j.toNat)
      (lowWidth c.dictSizeCode.toNat (lengthOf i e)) = low := ⟨_, rfl⟩
  have hfields : CopyFields c i e low := ⟨hi, he, hne, hlow ▸ field_lt ..⟩
  obtain ⟨ins, -, hs⟩ := exists_copyRow hi he j low
  exact ⟨ins, (Reads.copy i e j low ha hfields hs (hfields.at_iff.mpr ⟨hlen, hj, hlow⟩)).decode_eq⟩

theorem exists_decode_length (ha : c.atOffset = false) (hf : T % 2 = 1) : ∃ ins, decode c T = .ok ins := by
  obtain ⟨i, hscan⟩ := Rom.exists_scanLen (T >>> 1)
  have hi := (Rom.scanLen_eq_some_iff.mp hscan).1
  have he := field_lt T (1 + Rom.lenBits i) (Rom.exLenBits i)
  have hlen := (lengthBits_at_iff hi).mpr ⟨hf, hscan, rfl⟩
  generalize field T (1 + Rom.lenBits i) (Rom.exLenBits i) = e at he hlen
  by_cases hsent : lengthOf i e = Config.sentinelLength
  · obtain ⟨rfl, rfl⟩ := sentinel_fields hi he hsent
    exact ⟨_, (Reads.endOfStream (ins := .endOfStream) ha rfl hlen).decode_eq⟩
  · exact exists_decode_copy ha hi he hsent hlen

end

/-- Settles O49: each scan the decoder makes is over a complete code, and every index a scan finds has a row. -/
theorem everyBitPatternDecodes : Obligations.EveryBitPatternDecodes := by
  intro c T _
  cases ha : c.atOffset with
  | true => exact exists_decode_atOffset ha
  | false =>
    rcases Nat.mod_two_eq_zero_or_one T with hf | hf
    · exact exists_decode_literal ha hf
    · exact exists_decode_length ha hf

end Sys2Proof

namespace Sys2Proof.Machine

/-! ### The bytes not fetched yet -/

@[simp] theorem nextBytes_fetched (n a : Nat) (b : Byte) (s : State) :
    nextBytes n a (s.fetched b) = nextBytes n a s := by
  induction n generalizing a with
  | zero => rfl
  | succ n ih =>
    rw [nextBytes, nextBytes, ih]
    rfl

/-- The byte at the lowest address is the lowest byte of the lookahead (20_memory.md R35). -/
theorem nextBytes_succ {n a : Nat} {s : State} {b : Byte} (ha : a < s.inputLen) (hb : s.input.read a = some b) :
    nextBytes (n + 1) a s = b.toNat ||| nextBytes n (a + 1) s <<< 8 := by
  rw [Nat.or_comm, ← Nat.shiftLeft_add_eq_or_of_lt b.isLt, Nat.shiftLeft_eq]
  simp only [nextBytes, ha, hb, if_true, Option.getD_some]
  omega

/-- The low bytes of a longer lookahead are the shorter lookahead. -/
theorem nextBytes_mod {n m : Nat} (hnm : n ≤ m) (a : Nat) (s : State) :
    nextBytes m a s % 2 ^ (8 * n) = nextBytes n a s := by
  induction n generalizing m a with
  | zero => simp [nextBytes, Nat.mod_one]
  | succ n ih =>
    obtain ⟨m, rfl⟩ : ∃ k, m = k + 1 := ⟨m - 1, by omega⟩
    have hpow : 2 ^ (8 * (n + 1)) = 256 * 2 ^ (8 * n) := by rw [Nat.mul_succ, Nat.pow_add, Nat.mul_comm]
    have hbyte : (if a < s.inputLen then ((s.input.read a).getD 0).toNat else 0) < 256 := by
      split
      · exact BitVec.isLt _
      · decide
    rw [nextBytes, nextBytes, hpow, Nat.mod_mul, Nat.add_mul_mod_self_left, Nat.mod_eq_of_lt hbyte,
      Nat.add_mul_div_left _ _ (by decide), Nat.div_eq_of_lt hbyte, Nat.zero_add, ih (by omega)]

theorem nextBytes_shiftLeft_mod {n m : Nat} (hnm : n ≤ m) (a c : Nat) (s : State) :
    nextBytes m a s <<< c % 2 ^ (c + 8 * n) = nextBytes n a s <<< c := by
  simp only [Nat.shiftLeft_eq, Nat.mul_comm _ (2 ^ c), Nat.pow_add, Nat.mul_mod_mul_left, nextBytes_mod hnm]

/-! ### Several fetches at once -/

/-- The registers after `n` bytes have been fetched, lowest address first, each above the bits held by then
(41_bit_reader.md R80, 20_memory.md R35). -/
def State.fetchedBytes (n : Nat) (s : State) : State :=
  { s with
    bitAccumulator := s.bitAccumulator ||| BitVec.ofNat 32 (nextBytes n s.inputPos s <<< s.bitCount)
    bitCount := s.bitCount + 8 * n
    inputPos := s.inputPos + n }

@[simp] theorem State.fetchedBytes_zero (s : State) : s.fetchedBytes 0 = s := by
  simp [State.fetchedBytes, nextBytes]

@[simp] theorem State.fetchedBytes_bitCount (n : Nat) (s : State) :
    (s.fetchedBytes n).bitCount = s.bitCount + 8 * n := rfl

/-- A byte fetched before `n` others is the first of `n + 1`. -/
theorem State.fetchedBytes_fetched {s : State} {b : Byte} (hlt : s.inputPos < s.inputLen)
    (hb : s.input.read s.inputPos = some b) (n : Nat) : (s.fetched b).fetchedBytes n = s.fetchedBytes (n + 1) := by
  have hsplit : nextBytes (n + 1) s.inputPos s <<< s.bitCount =
      b.toNat <<< s.bitCount ||| nextBytes n (s.inputPos + 1) s <<< (s.bitCount + 8) := by
    rw [nextBytes_succ hlt hb, Nat.shiftLeft_or_distrib, Nat.add_comm s.bitCount, Nat.shiftLeft_add]
  have hbyte : b.setWidth 32 <<< s.bitCount = BitVec.ofNat 32 (b.toNat <<< s.bitCount) := by
    apply BitVec.eq_of_toNat_eq
    rw [BitVec.toNat_shiftLeft, BitVec.toNat_setWidth_of_le (by decide), BitVec.toNat_ofNat]
  have hcount : s.bitCount + 8 + 8 * n = s.bitCount + 8 * (n + 1) := by omega
  have hpos : s.inputPos + 1 + n = s.inputPos + (n + 1) := by omega
  simp only [State.fetchedBytes, nextBytes_fetched, State.fetched_bitAccumulator, State.fetched_bitCount,
    State.fetched_inputPos, hsplit, hbyte, BitVec.ofNat_or, BitVec.or_assoc, hcount, hpos]
  rfl

theorem State.bitCursor_fetchedBytes (n : Nat) (s : State) : (s.fetchedBytes n).bitCursor = s.bitCursor := by
  simp only [State.bitCursor, State.fetchedBytes]
  omega

/-- The bits held after `n` fetches are the low bits of what the stream still delivers (10_state.md R14). -/
theorem State.bitAccumulator_fetchedBytes {n : Nat} {s : State} (hacc : s.bitAccumulator.toNat < 2 ^ s.bitCount)
    (hn : s.bitCount + 8 * n ≤ 32) :
    (s.fetchedBytes n).bitAccumulator.toNat = s.window % 2 ^ (s.fetchedBytes n).bitCount := by
  have hheld : s.bitAccumulator.toNat % 2 ^ (s.bitCount + 8 * n) = s.bitAccumulator.toNat :=
    Nat.mod_eq_of_lt (hacc.trans_le (Nat.pow_le_pow_right (by decide) (by omega)))
  have hlow := nextBytes_shiftLeft_mod (show n ≤ 4 by omega) s.inputPos s.bitCount s
  have hfit : nextBytes n s.inputPos s <<< s.bitCount < 2 ^ 32 := by
    rw [← hlow]
    exact (Nat.mod_lt _ (by positivity)).trans_le (Nat.pow_le_pow_right (by decide) hn)
  rw [State.fetchedBytes_bitCount, State.window, Nat.or_mod_two_pow, hheld, hlow, State.fetchedBytes, BitVec.toNat_or,
    BitVec.toNat_ofNat, Nat.mod_eq_of_lt hfit]

/-! ### What `refill` does when the host has filled `IN` -/

/-- One turn of the loop with a byte left: that byte is fetched, and the rest of the input is filled as before. -/
theorem fetchByte_of_lt {s : State} (hfill : s.inputFilled) (hlt : s.inputPos < s.inputLen) :
    ∃ b, s.input.read s.inputPos = some b ∧ fetchByte s = .ok (s.fetched b) ∧ (s.fetched b).inputFilled := by
  have hsome := hfill s.inputPos hlt (Nat.le_refl _)
  rcases fetchByte_cases s with ⟨b, -, hb, he⟩ | ⟨hge, -⟩ | ⟨-, hnone, -⟩
  · exact ⟨b, hb, he, fun a ha hpos => hfill a ha (Nat.le_of_succ_le hpos)⟩
  · omega
  · simp [hnone] at hsome

/-- A fetch moves bits from the input to the reader. -/
theorem State.bitsLeft_fetched {s : State} (hlt : s.inputPos < s.inputLen) (b : Byte) :
    (s.fetched b).bitsLeft = s.bitsLeft := by
  simp only [State.bitsLeft, State.fetched_bitCount, State.fetched_inputLen, State.fetched_inputPos]
  omega

/-- The number of bytes `refill(N)` needs, `ceil((N - bitCount) / 8)` (41_bit_reader.md R80 (b)). -/
def State.bytesNeeded (N : Nat) (s : State) : Nat := (N - s.bitCount + 7) / 8

theorem State.bytesNeeded_of_le {N : Nat} {s : State} (h : N ≤ s.bitCount) : s.bytesNeeded N = 0 := by
  unfold State.bytesNeeded
  omega

theorem State.bytesNeeded_of_lt {N : Nat} {s : State} (h : s.bitCount < N) (b : Byte) :
    s.bytesNeeded N = (s.fetched b).bytesNeeded N + 1 := by
  unfold State.bytesNeeded
  rw [State.fetched_bitCount]
  omega

/-- Where `N` bits can be had, the loop fetches the least number of bytes that brings them (41_bit_reader.md R80 (a),
(b)). -/
theorem refillLoop_of_le_bitsLeft {fuel N : Nat} {s : State} (hfuel : N ≤ s.bitCount + 8 * fuel)
    (hfill : s.inputFilled) (h : N ≤ s.bitsLeft) : refillLoop fuel N s = .ok (s.fetchedBytes (s.bytesNeeded N)) := by
  induction fuel generalizing s with
  | zero => rw [refillLoop, State.bytesNeeded_of_le hfuel, State.fetchedBytes_zero]
  | succ fuel ih =>
    rw [refillLoop]
    split
    case isTrue hN =>
      have hlt : s.inputPos < s.inputLen := by
        unfold State.bitsLeft at h
        omega
      obtain ⟨b, hb, he, hfill'⟩ := fetchByte_of_lt hfill hlt
      rw [he, Res.ok_bind, State.bytesNeeded_of_lt hN b, ← State.fetchedBytes_fetched hlt hb]
      exact ih (by rw [State.fetched_bitCount]; omega) hfill' (h.trans_eq (State.bitsLeft_fetched hlt b).symm)
    case isFalse hN => rw [State.bytesNeeded_of_le (Nat.le_of_not_lt hN), State.fetchedBytes_zero]

/-- Where `N` bits cannot be had, the loop fetches all there is and then faults (41_bit_reader.md R80 (c)). -/
theorem refillLoop_of_bitsLeft_lt {fuel N : Nat} {s : State} (hfuel : N ≤ s.bitCount + 8 * fuel)
    (hfill : s.inputFilled) (h : s.bitsLeft < N) :
    refillLoop fuel N s = .error (.next ((s.fetchedBytes (s.inputLen - s.inputPos)).raised .incompleteInput)) := by
  have hN : s.bitCount < N := (Nat.le_add_right _ _).trans_lt h
  induction fuel generalizing s with
  | zero => omega
  | succ fuel ih =>
    rw [refillLoop, if_pos hN]
    by_cases hlt : s.inputPos < s.inputLen
    · obtain ⟨b, hb, he, hfill'⟩ := fetchByte_of_lt hfill hlt
      have hcount : s.inputLen - s.inputPos = s.inputLen - (s.fetched b).inputPos + 1 := by
        rw [State.fetched_inputPos]
        omega
      have hleft := (State.bitsLeft_fetched hlt b).trans_lt h
      rw [he, Res.ok_bind, hcount, ← State.fetchedBytes_fetched hlt hb]
      exact ih (by rw [State.fetched_bitCount]; omega) hfill' hleft ((Nat.le_add_right _ _).trans_lt hleft)
    · have hend : s.inputLen ≤ s.inputPos := Nat.le_of_not_lt hlt
      rw [fetchByte, if_pos hend, raise_eq, Res.error_bind, Nat.sub_eq_zero_of_le hend, State.fetchedBytes_zero]

theorem refill_of_le_bitsLeft {N : Nat} {s : State} (hfill : s.inputFilled) (h : N ≤ s.bitsLeft) :
    refill N s = .ok (s.fetchedBytes (s.bytesNeeded N)) :=
  refillLoop_of_le_bitsLeft (by omega) hfill h

theorem refill_of_bitsLeft_lt {N : Nat} {s : State} (hfill : s.inputFilled) (h : s.bitsLeft < N) :
    refill N s = .error (.next ((s.fetchedBytes (s.inputLen - s.inputPos)).raised .incompleteInput)) :=
  refillLoop_of_bitsLeft_lt (by omega) hfill h

/-- Settles O20: a refill is `fetchedBytes` for the number of bytes it needs, or for all that exist and then a fault. -/
theorem refillFetchesJustEnough : Obligations.RefillFetchesJustEnough := by
  intro s N hN hinv hfill
  obtain ⟨hacc, hcount, -, hpos⟩ := hinv
  constructor
  · intro hle
    have hneed : s.bytesNeeded N = (N - s.bitCount + 7) / 8 := rfl
    have hbits := s.fetchedBytes_bitCount (s.bytesNeeded N)
    refine ⟨_, refill_of_le_bitsLeft hfill hle, rfl, rfl, rfl, ?_, by omega, by omega, s.bitCursor_fetchedBytes _,
      fun hheld => ?_⟩
    · exact State.bitAccumulator_fetchedBytes hacc (by omega)
    · rw [State.bytesNeeded_of_le hheld, State.fetchedBytes_zero]
  · intro hlt
    refine ⟨_, refill_of_bitsLeft_lt hfill hlt, rfl, rfl, ?_, rfl, ?_,
      ⟨rfl, rfl, rfl, fun _ => rfl, fun _ => rfl⟩, ⟨rfl, rfl, rfl, rfl, rfl, rfl, rfl, rfl⟩,
      s.bitCursor_fetchedBytes _⟩
    · exact Nat.add_sub_cancel' hpos
    · unfold State.bitsLeft at hlt
      exact State.bitAccumulator_fetchedBytes hacc (by omega)

/-! ### `consume` and `peek` -/

theorem peek_refused {k : Nat} {s : State} (h : s.bitCount < k) : peek k s = .error (.refused .bitsNotAvailable) :=
  if_neg (Nat.not_le.mpr h)

@[simp] theorem State.consumed_zero (s : State) : s.consumed 0 = s := by simp [State.consumed]

/-- Settles O21: within the bits held, `consume` answers `consumed`. -/
theorem consumeDropsTheLowBits : Obligations.ConsumeDropsTheLowBits := by
  intro s k hk
  refine ⟨s.consumed k, consume_ok hk, rfl, ?_, Nat.sub_add_cancel hk, ?_, ?_⟩
  · rw [State.consumed_bitAccumulator, BitVec.toNat_ushiftRight, Nat.shiftRight_eq_div_pow]
  · simpa using (TokenPath.start.consumed k hk).bitCursor_eq
  · rintro rfl
    exact s.consumed_zero

/-- Settles O22: both operations split at the number of bits held. -/
theorem bitsBeyondTheReaderAreRefused : Obligations.BitsBeyondTheReaderAreRefused := fun _ _ =>
  ⟨fun hlt => ⟨consume_eq_error.mpr ⟨hlt, rfl⟩, peek_refused hlt⟩, peek_ok⟩

end Sys2Proof.Machine

namespace Sys2Proof.Machine

/-! ### The window of the dictionary -/

theorem State.dictSize_eq (s : State) : s.dictSize = 64 * 2 ^ s.dictSizeCode.toNat := Nat.shiftLeft_eq ..

/-- The window fits the RAM (10_state.md R19, 20_memory.md R33). -/
theorem State.dictSize_le_dictCap {s : State} (h : s.headerInv) : s.dictSize ≤ Config.dictCap := by
  rw [State.dictSize_eq]
  exact Nat.mul_le_mul_left 64 (Nat.pow_le_pow_right (by decide) h.2 : 2 ^ s.dictSizeCode.toNat ≤ 2 ^ 6)

theorem State.dictInv.dictWritePos_lt {s : State} (h : s.dictInv) : s.dictWritePos < s.dictSize := by
  obtain ⟨-, hwrite, -⟩ := h
  exact hwrite ▸ Nat.mod_lt _ s.dictSize_pos

theorem State.Running.dictInv {s : State} (hs : s.Running) : s.dictInv := by
  obtain ⟨-, -, -, -, -, -, hdict⟩ := State.running_iff.mp hs
  exact hdict

theorem State.Running.dictFilledSize_eq {s : State} (hs : s.Running) :
    s.dictFilledSize = min s.outputPos s.dictSize := by
  obtain ⟨-, -, hfill, -⟩ := hs.dictInv
  exact hfill

theorem State.Running.dictSize_le_dictCap {s : State} (hs : s.Running) : s.dictSize ≤ Config.dictCap := by
  obtain ⟨-, -, -, -, hhead, -⟩ := State.running_iff.mp hs
  exact State.dictSize_le_dictCap hhead

/-- In a running decode the write address exists. -/
theorem State.Running.dictWritePos_lt_dictCap {s : State} (hs : s.Running) : s.dictWritePos < Config.dictCap :=
  hs.dictInv.dictWritePos_lt.trans_le hs.dictSize_le_dictCap

theorem Memory.read_write (m : Memory) (a x : Nat) (b : Byte) :
    (m.write a b).read x = if x = a then some b else m.read x := by
  split
  case isTrue h => rw [h, Memory.read_write_same]
  case isFalse h => exact Memory.read_write_other m b h

/-- Settles O24: with room and a write address of the RAM, `emit` answers `emitted`. -/
theorem emitWritesBothMemories : Obligations.EmitWritesBothMemories := by
  intro s b hroom hwrite
  rw [← s.dictSize_eq]
  exact ⟨s.emitted b, emit_ok hroom hwrite, rfl, rfl, fun a => Memory.read_write .., fun a => Memory.read_write ..⟩

theorem readBack_of_empty {s : State} (h : s.dictFilledSize = 0) (D : Nat) :
    readBack D s = .error (.next (s.raised .badData)) := if_pos h

/-- Settles O26: `readBack` looks at `dictFilledSize` before it computes an address. -/
theorem readBackOfNothingIsBadData : Obligations.ReadBackOfNothingIsBadData := fun _ D h => readBack_of_empty h D

/-! ### What a token leaves of DICT -/

/-- A token that starts with `dictWritePos` inside the window keeps it there, so it writes no byte beyond the window
(42_dictionary.md R90, R96). -/
theorem TokenPath.idle_dict_frame {s u : State} {n : Nat} (h : TokenPath s n u) (hs : s.dictWritePos < s.dictSize) :
    u.dictWritePos < u.dictSize ∧ ∀ a, s.dictSize ≤ a → u.dict.read a = s.dict.read a := by
  induction h with
  | start => exact ⟨hs, fun _ _ => rfl⟩
  | consumed k _ _ ih => exact ih
  | fetched b _ _ _ ih => exact ih
  | @emitted n u b hu _ _ ih =>
    obtain ⟨hwrite, hread⟩ := ih
    refine ⟨Nat.mod_lt _ u.dictSize_pos, fun a ha => ?_⟩
    have hsize : u.dictSize = s.dictSize := by rw [State.dictSize, State.dictSize, hu.dictSizeCode_eq]
    rw [State.emitted_dict, Memory.read_write_other _ _ (by omega)]
    exact hread a ha

/-- Settles O46: every place on a token's path writes inside the window only, and neither the end of the stream nor a
fault writes DICT. -/
theorem idleDictionaryIsNeverWritten : Obligations.IdleDictionaryIsNeverWritten := by
  intro ins s t hs h
  cases exec_next h with
  | completed ht => exact ht.idle_dict_frame hs
  | finished hu => exact hu.idle_dict_frame hs
  | faulted hfault =>
    obtain ⟨n, u, e, hu, -, rfl⟩ := hfault
    exact hu.idle_dict_frame hs

/-! ### Reading back

The read address is congruent to `dictWritePos - 1 - D` modulo the number of valid bytes, and `dictWritePos` to the
number of emitted bytes; so the byte found is the one emitted `D mod dictFilledSize + 1` bytes ago. -/

theorem State.readBackPos_modEq {s : State} (h : 0 < s.dictFilledSize) (D : Nat) :
    s.readBackPos D + (1 + D) ≡ s.dictWritePos [MOD s.dictFilledSize] := by
  rw [← Int.natCast_modEq_iff, Nat.cast_add, State.readBackPos, Int.toNat_of_nonneg (Int.emod_nonneg _ (by omega))]
  have hmod := (Int.mod_modEq ((s.dictWritePos : Int) - 1 - D) s.dictFilledSize).add_right (1 + D : Nat)
  rwa [show (s.dictWritePos : Int) - 1 - D + (1 + D : Nat) = s.dictWritePos by push_cast; ring] at hmod

/-- The write position counts the emitted bytes modulo the number of valid ones too: until the window is full, nothing
has wrapped. -/
theorem State.dictInv.dictWritePos_modEq {s : State} (h : s.dictInv) :
    s.dictWritePos ≡ s.outputPos [MOD s.dictFilledSize] := by
  obtain ⟨-, hwrite, hfill, -⟩ := h
  rw [hwrite, hfill]
  rcases Nat.lt_or_ge s.outputPos s.dictSize with hlt | hge
  · rw [Nat.mod_eq_of_lt hlt]
  · rw [Nat.min_eq_right hge]
    exact Nat.mod_modEq ..

/-- Until the window is full nothing in it is overwritten, and the number of bytes emitted serves as the modulus too. -/
theorem lastIndex_eq_sub_mod_min {n size p : Nat} (hp : p < n) :
    lastIndex n size p = n - 1 - (n - 1 - p) % min n size := by
  rw [lastIndex]
  rcases Nat.lt_or_ge n size with hlt | hge
  · rw [Nat.min_eq_left hlt.le, Nat.mod_eq_of_lt (by omega), Nat.mod_eq_of_lt (by omega)]
  · rw [Nat.min_eq_right hge]

/-- The most recent byte at the address that `readBack(D)` reads. -/
theorem State.dictInv.lastIndex_readBackPos {s : State} (h : s.dictInv) (hne : 0 < s.dictFilledSize) (D : Nat) :
    lastIndex s.outputPos s.dictSize (s.readBackPos D) = s.outputPos - 1 - D % s.dictFilledSize := by
  have hmod := (State.readBackPos_modEq hne D).trans h.dictWritePos_modEq
  obtain ⟨-, -, hfill, -⟩ := h
  have hlt := readBackPos_lt (D := D) hne
  have hpos : s.readBackPos D < s.outputPos := by omega
  have hback : s.outputPos - 1 - s.readBackPos D ≡ D [MOD s.dictFilledSize] := by
    apply Nat.ModEq.add_left_cancel' (s.readBackPos D + 1)
    rw [show s.readBackPos D + 1 + (s.outputPos - 1 - s.readBackPos D) = s.outputPos by omega, Nat.add_assoc]
    exact hmod.symm
  rw [lastIndex_eq_sub_mod_min hpos, ← hfill, hback]

/-- In a running decode `readBack(D)` answers a byte of `OUT` (42_dictionary.md R91 (b) to (d), R92). -/
theorem State.Running.readBack_ok {s : State} (hs : s.Running) (hne : 0 < s.dictFilledSize) (D : Nat) :
    ∃ b, readBack D s = .ok b ∧ s.out.read (s.outputPos - 1 - D % s.dictFilledSize) = some b := by
  have hlast := hs.dictInv.lastIndex_readBackPos hne D
  have hcap := hs.dictSize_le_dictCap
  obtain ⟨-, -, hfill, hout, hwin⟩ := hs.dictInv
  have hlt := readBackPos_lt (D := D) hne
  obtain ⟨b, hb⟩ := Option.isSome_iff_exists.mp (hout (s.outputPos - 1 - D % s.dictFilledSize) (by omega))
  refine ⟨b, readBack_eq_ok.mpr ⟨hne, by omega, ?_⟩, hb⟩
  rw [hwin _ hlt, hlast, hb]

/-- Settles O25: the address is a remainder modulo `dictFilledSize`, and the byte there is that of `Running.readBack_ok`. -/
theorem readBackFindsTheByteAtDistance : Obligations.ReadBackFindsTheByteAtDistance := fun _ D hs hf hne =>
  ⟨readBackPos_lt hne, State.Running.readBack_ok ⟨hs, hf⟩ hne D⟩

/-! ### Copying -/

theorem State.Running.emit_ok {s : State} (hs : s.Running) (hroom : s.outputPos < s.outputLen) (b : Byte) :
    emit b s = .ok (s.emitted b) := Machine.emit_ok hroom hs.dictWritePos_lt_dictCap

theorem State.Running.emitted {s : State} (hs : s.Running) (hroom : s.outputPos < s.outputLen) (b : Byte) :
    (s.emitted b).Running := (TokenPath.start.emitted b hroom hs.dictWritePos_lt_dictCap).running hs

theorem State.dictFilledSize_emitted_pos {s : State} (hne : 0 < s.dictFilledSize) (b : Byte) :
    0 < (s.emitted b).dictFilledSize := by
  rw [State.emitted_dictFilledSize]
  split <;> omega

/-- In a running decode a copy with room for its bytes completes, and what it appends is the sliding window's
(42_dictionary.md R94): each byte is read back from the output as it stands by then, the copy's own bytes included. -/
theorem State.Running.copyBytes_ok {s : State} (hs : s.Running) (hne : 0 < s.dictFilledSize) {L : Nat}
    (hroom : s.outputPos + L ≤ s.outputLen) (D : Nat) :
    ∃ t, copyBytes L D s = .ok t ∧ CopiedWindow t s.outputPos L D s.dictSize := by
  induction L generalizing s with
  | zero => exact ⟨s, rfl, fun k hk => absurd hk (Nat.not_lt_zero k)⟩
  | succ L ih =>
    have hlt : s.outputPos < s.outputLen := by omega
    obtain ⟨b, hb, hsrc⟩ := hs.readBack_ok hne D
    obtain ⟨t, ht, hwin⟩ := ih (hs.emitted hlt b) (State.dictFilledSize_emitted_pos hne b)
      (by rw [State.emitted_outputPos, State.emitted_outputLen]; omega)
    refine ⟨t, ?_, fun k hk => ?_⟩
    · rw [copyBytes, if_neg hlt.ne, hb, Res.ok_bind, hs.emit_ok hlt, Res.ok_bind, ht]
    · cases k with
      | zero =>
        have hfill := hs.dictFilledSize_eq
        have hkept {a : Nat} (ha : a ≤ s.outputPos) : t.out.read a = (s.emitted b).out.read a :=
          copyBytes_out_outside ht (.inl (Nat.lt_succ_of_le ha))
        have hnew : t.out.read s.outputPos = some b := by
          rw [hkept (Nat.le_refl _), State.emitted_out, Memory.read_write_same]
        have hold : t.out.read (s.outputPos - 1 - D % s.dictFilledSize) = some b := by
          rw [hkept (by omega), State.emitted_out, Memory.read_write_other _ _ (by omega), hsrc]
        rw [Nat.add_zero, ← hfill, hnew, hold]
        exact ⟨rfl, rfl⟩
      | succ k =>
        have hk' := hwin k (Nat.lt_of_succ_lt_succ hk)
        rwa [State.emitted_outputPos, Nat.add_right_comm] at hk'

/-- At distance 0 every byte of the window's copy is the one before it, so all are the last byte emitted before. -/
theorem CopiedWindow.read_of_distance_zero {t : State} {n L size : Nat} (h : CopiedWindow t n L 0 size) :
    ∀ k < L, t.out.read (n + k) = t.out.read (n - 1) := by
  intro k hk
  induction k with
  | zero => simpa using (h 0 hk).2
  | succ k ih =>
    have hprev : t.out.read (n + (k + 1)) = t.out.read (n + k) := by simpa using (h (k + 1) hk).2
    exact hprev.trans (ih (Nat.lt_of_succ_lt hk))

/-- Settles O27: a copy's bytes are the window's, and at distance 0 each byte of the window is the one before it. -/
theorem copyAtDistanceZeroRepeatsTheLastByte : Obligations.CopyAtDistanceZeroRepeatsTheLastByte := by
  intro s L hs hf hne hroom
  obtain ⟨t, ht, hwin⟩ := State.Running.copyBytes_ok ⟨hs, hf⟩ hne hroom 0
  have hfill := State.Running.dictFilledSize_eq ⟨hs, hf⟩
  refine ⟨t, ht, (copyBytes_frame ht).2, fun k hk => ?_⟩
  rw [hwin.read_of_distance_zero k hk, copyBytes_out_outside ht (.inl (by omega))]

end Sys2Proof.Machine

namespace Sys2Proof

open Machine

/-! ### The operands of a copy -/

theorem lenBase_pos : ∀ i < 16, 0 < Rom.lenBase i := by decide

/-- The operands of a well-formed copy instruction are made of fields of a copy. -/
theorem CopyFields.of_copyOperands {c : Ctx} {ins : Instr} {o : CopyOperands}
    (hw : Sys2Proof.wellFormed c ins = true) (ho : copyOperands c ins = some o) :
    ∃ i e low, ∃ j : BitVec 6, CopyFields c i e low ∧ ins.shape = copyShape i e j low ∧
      o = ⟨i, lengthOf i e, j.toNat, distance (lowWidth c.dictSizeCode.toNat (lengthOf i e)) j.toNat low⟩ := by
  obtain ⟨i, e, low, j, h, hs⟩ : ∃ i e low, ∃ j : BitVec 6, CopyFields c i e low ∧ ins.shape = copyShape i e j low := by
    cases hs : ins.shape with
    | copy2 j low => exact ⟨0, 0, low.toNat, j, .of_copy2 c low, by simp [copyShape]⟩
    | copy i e j low => exact ⟨i, e, low.toNat, j, hs ▸ CopyFields.of_wellFormed hw hs⟩
    | lit8 | litp | endOfStream | offs => simp [copyOperands, hs] at ho
  exact ⟨i, e, low, j, h, hs, Option.some.inj (ho.symm.trans (h.copyOperands_eq (Ctx.sizeLegal_of_wellFormed hw) hs))⟩

theorem CopyFields.exec_eq {c : Ctx} {ins : Instr} {i e low : Nat} {j : BitVec 6} (hc : c.sizeLegal = true)
    (h : CopyFields c i e low) (hs : ins.shape = copyShape i e j low) (s : State) :
    exec ins s = copyToken i e j.toNat low s := by
  rw [exec_eq_execShape, hs]
  rcases h.zero_or_pos hc with ⟨rfl, rfl, hlow⟩ | ⟨hne, -, hlow⟩
  · simp only [copyShape, if_true, execShape, BitVec.toNat_ofNat, Nat.mod_eq_of_lt hlow]
  · simp only [copyShape, if_neg hne, execShape, BitVec.toNat_ofNat, Nat.mod_eq_of_lt hlow]

theorem copyBits_width (c : Ctx) (i e : Nat) (j : BitVec 6) (low : Nat) :
    (copyBits c i e j low).width =
      lengthPartWidth i + (Rom.offsBits j.toNat + lowWidth c.dictSizeCode.toNat (lengthOf i e)) := by
  simp only [copyBits, Bits.cat, lengthBits_width, offsetBits]

theorem copyOperands_length_pos {c : Ctx} {ins : Instr} {o : CopyOperands} (hw : wellFormed c ins = true)
    (ho : copyOperands c ins = some o) : 0 < o.length := by
  obtain ⟨i, e, low, j, h, -, rfl⟩ := CopyFields.of_copyOperands hw ho
  exact Nat.add_pos_left (lenBase_pos i h.index_lt) e

end Sys2Proof

namespace Sys2Proof.Machine

/-! ### A copy up to its bytes -/

theorem State.consumed_consumed (k l : Nat) (s : State) : (s.consumed k).consumed l = s.consumed (k + l) := by
  simp only [State.consumed, BitVec.shiftRight_add, Nat.sub_sub]

theorem lengthPart_ok {i : Nat} {s : State} (h : lengthPartWidth i ≤ s.bitCount) :
    lengthPart i s = .ok (s.consumed (lengthPartWidth i)) :=
  lengthPart_eq_ok.mpr ⟨h, by simp only [State.consumed_consumed, lengthPartWidth]⟩

theorem State.bitsLeft_consumed {k : Nat} {s : State} (h : k ≤ s.bitCount) :
    (s.consumed k).bitsLeft + k = s.bitsLeft := by
  simp only [State.bitsLeft, State.consumed_bitCount, State.consumed_inputLen, State.consumed_inputPos]
  omega

theorem lowWidth_le {d : Nat} (hd : d ≤ 6) (length : Nat) : lowWidth d length ≤ 6 := by
  unfold lowWidth
  split <;> omega

/-- A refill on a token's path stays on it. -/
theorem TokenPath.of_refill {s u r : State} {n N : Nat} (h : TokenPath s n u) (hN : N ≤ Config.tokenLookahead)
    (hr : refill N u = .ok r) : TokenPath s n r := by
  have hm := refill_meets h hN
  rwa [hr] at hm

/-- Only the reader's three registers differ. -/
def SameButReader (s t : State) : Prop :=
  t = { s with bitAccumulator := t.bitAccumulator, bitCount := t.bitCount, inputPos := t.inputPos }

theorem SameButReader.refl (s : State) : SameButReader s s := rfl

theorem SameButReader.consumed {s u : State} (h : SameButReader s u) (k : Nat) : SameButReader s (u.consumed k) := by
  unfold SameButReader
  rw [h]
  rfl

theorem SameButReader.of_refill {s u r : State} {N : Nat} (h : SameButReader s u) (hr : refill N u = .ok r) :
    SameButReader s r := by
  unfold SameButReader
  rw [(refill_ok hr).1, h]

theorem SameButReader.sameBytes {s t : State} (h : SameButReader s t) : SameBytes s t := by
  rw [h]
  exact ⟨rfl, rfl, rfl, fun _ => rfl, fun _ => rfl⟩

/-- With the bits for both of its lookaheads, a copy consumes all its bits before it emits a byte: what is left is
`copyBytes` (43_tokens.md R103, R105 to R107). -/
theorem copyToken_eq_copyBytes {s : State} {i e low : Nat} (j : BitVec 6) (hd : s.dictSizeCode.toNat ≤ 6)
    (hfill : s.inputFilled) (hheld : lengthPartWidth i ≤ s.bitCount)
    (hleft : lengthPartWidth i + Config.offsetLookahead ≤ s.bitsLeft) :
    ∃ u, TokenPath s
        (lengthPartWidth i + (Rom.offsBits j.toNat + lowWidth s.dictSizeCode.toNat (lengthOf i e))) u ∧
      SameButReader s u ∧
      copyToken i e j.toNat low s = Res.outcome
        (copyBytes (lengthOf i e) (distance (lowWidth s.dictSizeCode.toNat (lengthOf i e)) j.toNat low) u) := by
  have hbits := (offsBits_range j).2
  have hlow := lowWidth_le hd (lengthOf i e)
  have hleft' : Config.offsetLookahead ≤ (s.consumed (lengthPartWidth i)).bitsLeft := by
    have := State.bitsLeft_consumed hheld
    omega
  obtain ⟨r, hr⟩ : ∃ r, refill Config.offsetLookahead (s.consumed (lengthPartWidth i)) = .ok r :=
    ⟨_, refill_of_le_bitsLeft hfill hleft'⟩
  have hpath := (TokenPath.start.consumed _ hheld).of_refill (by decide) hr
  obtain ⟨-, hcount : 14 ≤ r.bitCount, -⟩ := refill_ok hr
  have hoffs : offsetPrefix j.toNat (s.consumed (lengthPartWidth i)) = .ok (r.consumed (Rom.offsBits j.toNat)) :=
    offsetPrefix_eq_ok.mpr ⟨r, hr, by omega, rfl⟩
  have hlow' : lowWidth s.dictSizeCode.toNat (lengthOf i e) ≤ (r.consumed (Rom.offsBits j.toNat)).bitCount := by
    rw [State.consumed_bitCount]
    omega
  refine ⟨(r.consumed (Rom.offsBits j.toNat)).consumed (lowWidth s.dictSizeCode.toNat (lengthOf i e)), ?_, ?_, ?_⟩
  · rw [← Nat.add_assoc, ← Nat.zero_add (lengthPartWidth i)]
    exact (hpath.consumed _ (by omega)).consumed _ hlow'
  · exact ((((SameButReader.refl s).consumed _).of_refill hr).consumed _).consumed _
  · rw [copyToken, lengthPart_ok hheld, Res.ok_bind, hoffs, Res.ok_bind, copyBody, State.consumed_dictSizeCode,
      hpath.dictSizeCode_eq, consume_ok hlow', Res.ok_bind]

/-- The same, of every well-formed copy instruction. -/
theorem exec_copy_eq_copyBytes {ins : Instr} {o : CopyOperands} {s : State} (ho : copyOperands s.ctx ins = some o)
    (hw : wellFormed s.ctx ins = true) (hfill : s.inputFilled) (hreach : s.copyReachesBytes o) :
    ∃ u, TokenPath s (tokenWidth s.ctx ins) u ∧ SameButReader s u ∧
      exec ins s = Res.outcome (copyBytes o.length o.distance u) := by
  have hc := Ctx.sizeLegal_of_wellFormed hw
  obtain ⟨i, e, low, j, h, hs, rfl⟩ := CopyFields.of_copyOperands hw ho
  obtain ⟨hheld, hleft⟩ := hreach
  rw [h.exec_eq hc hs, tokenWidth, h.encode_eq hc hs, copyBits_width]
  exact copyToken_eq_copyBytes j (sizeLegal_of_wellFormed hw).2 hfill hheld hleft

/-- With room and an empty dictionary the first byte of a copy is the fault (42_dictionary.md R93, R94). -/
theorem copyBytes_of_empty {L : Nat} {s : State} (hL : 0 < L) (hroom : s.outputPos ≠ s.outputLen)
    (h : s.dictFilledSize = 0) (D : Nat) : copyBytes L D s = .error (.next (s.raised .badData)) := by
  obtain ⟨L, rfl⟩ := Nat.exists_eq_succ_of_ne_zero hL.ne'
  rw [copyBytes, if_neg hroom, readBack_of_empty h, Res.error_bind]

/-- Settles O39: the copy reaches its first byte with its bits consumed and nothing else changed, and faults there. -/
theorem copyFromNothingIsBadData : Obligations.CopyFromNothingIsBadData := by
  intro ins o s ho hw _ _ hfill hreach hempty hroom
  obtain ⟨u, hpath, hreader, hexec⟩ := exec_copy_eq_copyBytes ho hw hfill hreach
  obtain ⟨hpos, -, hfilled, -⟩ := hreader.sameBytes
  obtain ⟨-, -, -, -, hlen, -⟩ := hpath.sameConfig
  have hfault := copyBytes_of_empty (copyOperands_length_pos hw ho) (s := u) (by omega) (by omega) o.distance
  exact ⟨u.raised .badData, by rw [hexec, hfault, Res.outcome_error], rfl, rfl, hreader.sameBytes, hpath.sameConfig,
    hpath.bitCursor_eq⟩

end Sys2Proof.Machine

namespace Sys2Proof

open Machine

/-! ### How long a copy is -/

theorem lengthOf_le {i e : Nat} (hi : i < 16) (he : e < 2 ^ Rom.exLenBits i) :
    lengthOf i e ≤ Config.sentinelLength := by
  have hmax : ∀ k < 16, Rom.lenBase k + 2 ^ Rom.exLenBits k ≤ 520 := by decide
  have := hmax i hi
  unfold lengthOf Config.sentinelLength
  omega

theorem copyOperands_length_le {c : Ctx} {ins : Instr} {o : CopyOperands} (hw : wellFormed c ins = true)
    (ho : copyOperands c ins = some o) : o.length ≤ Config.sentinelLength := by
  obtain ⟨i, e, low, j, h, -, rfl⟩ := CopyFields.of_copyOperands hw ho
  exact lengthOf_le h.index_lt h.extra_lt

end Sys2Proof

namespace Sys2Proof.Machine

/-! ### The copies where they complete -/

/-- The least window holds 1024 bytes, more than any copy is long (10_state.md R19). -/
theorem State.sentinelLength_lt_dictSize {s : State} (h : s.headerInv) : Config.sentinelLength < s.dictSize := by
  have hpow : 2 ^ 4 ≤ 2 ^ s.dictSizeCode.toNat := Nat.pow_le_pow_right (by decide) h.1
  rw [State.dictSize_eq]
  unfold Config.sentinelLength
  omega

/-- Of the last `size` bytes emitted, each is the most recent one at its own address. -/
theorem lastIndex_mod {n size m : Nat} (hm : m < n) (hsize : n ≤ m + size) : lastIndex n size (m % size) = m := by
  have hsplit : n - 1 - m % size = n - 1 - m + size * (m / size) := by
    have := Nat.mod_add_div m size
    omega
  rw [lastIndex, hsplit, Nat.add_mul_mod_self_left, Nat.mod_eq_of_lt (by omega)]
  omega

/-- In a running decode the last `dictSize` bytes of `OUT` stand in `DICT` too (10_state.md R24 (c)). -/
theorem State.dictInv.dict_read_mod {s : State} (h : s.dictInv) {m : Nat} (hm : m < s.outputPos)
    (hsize : s.outputPos ≤ m + s.dictSize) : s.dict.read (m % s.dictSize) = s.out.read m := by
  obtain ⟨-, -, hfill, -, hwin⟩ := h
  have hmod := Nat.mod_lt m s.dictSize_pos
  have hle := Nat.mod_le m s.dictSize
  rw [hwin _ (by omega), lastIndex_mod hm hsize]

/-- What `L` more bytes emitted make of the dictionary of a running decode: its registers, and each of the bytes also at
its place of the window, which is longer than `L` (42_dictionary.md R90). -/
theorem State.dictInv.appended {s t : State} {L : Nat} (hs : s.dictInv) (ht : t.dictInv)
    (hsize : t.dictSize = s.dictSize) (hpos : t.outputPos = s.outputPos + L) (hL : L ≤ s.dictSize) :
    t.dictWritePos = (s.dictWritePos + L) % s.dictSize ∧
    t.dictFilledSize = min (s.dictFilledSize + L) s.dictSize ∧
    ∀ k < L, t.dict.read ((s.dictWritePos + k) % s.dictSize) = t.out.read (s.outputPos + k) := by
  obtain ⟨-, hwrite, hfill, -⟩ := hs
  have ⟨_, hwrite', hfill', _⟩ := ht
  simp only [hwrite, Nat.mod_add_mod]
  refine ⟨by rw [hwrite', hsize, hpos], by rw [hfill', hsize]; omega, fun k hk => ?_⟩
  rw [← hsize]
  exact ht.dict_read_mod (by omega) (by omega)

theorem TokenPath.dictSize_eq {s u : State} {n : Nat} (h : TokenPath s n u) : u.dictSize = s.dictSize := by
  rw [State.dictSize, State.dictSize, h.dictSizeCode_eq]

/-- In a running decode a well-formed copy that gets its bits, finds a byte in the dictionary and has room completes:
it appends its length of the sliding window to `OUT` and `DICT` (43_tokens.md R106, R107, 42_dictionary.md R94). -/
theorem State.Running.exec_copy {s : State} (hs : s.Running) {ins : Instr} {o : CopyOperands}
    (ho : copyOperands s.ctx ins = some o) (hw : wellFormed s.ctx ins = true) (hfill : s.inputFilled)
    (hreach : s.copyReachesBytes o) (hne : 0 < s.dictFilledSize) (hroom : s.outputPos + o.length ≤ s.outputLen) :
    ∃ t, exec ins s = .next t ∧ t.outputPos = s.outputPos + o.length ∧
      t.dictWritePos = (s.dictWritePos + o.length) % s.dictSize ∧
      t.dictFilledSize = min (s.dictFilledSize + o.length) s.dictSize ∧
      CopiedWindow t s.outputPos o.length o.distance s.dictSize ∧
      (∀ k < o.length, t.dict.read ((s.dictWritePos + k) % s.dictSize) = t.out.read (s.outputPos + k)) ∧
      t.fsm = .readToken ∧ t.err = s.err ∧ t.pendingLength = none ∧ SameConfig s t ∧
      t.bitCursor = s.bitCursor + tokenWidth s.ctx ins := by
  obtain ⟨u, hpath, hreader, hexec⟩ := exec_copy_eq_copyBytes ho hw hfill hreach
  obtain ⟨hpos, -, hfilled, -⟩ := hreader.sameBytes
  obtain ⟨-, -, -, -, hlen, -⟩ := hpath.sameConfig
  obtain ⟨t, ht, hwin⟩ := (hpath.running hs).copyBytes_ok (hfilled ▸ hne) (L := o.length) (by omega) o.distance
  have hend : TokenPath s (tokenWidth s.ctx ins) t := by
    have := copyBytes_meets hpath o.length o.distance
    rwa [ht] at this
  obtain ⟨-, herr, -, -, hhead, -, hdict⟩ := State.running_iff.mp hs
  obtain ⟨hfsm', herr', hpend', -, -, -, hdict'⟩ := State.running_iff.mp (hend.running hs)
  have hpos' : t.outputPos = s.outputPos + o.length := by rw [(copyBytes_frame ht).2, hpos]
  have hle := (copyOperands_length_le hw ho).trans (State.sentinelLength_lt_dictSize hhead).le
  obtain ⟨hwrite, hfill', hecho⟩ := hdict.appended hdict' hend.dictSize_eq hpos' hle
  exact ⟨t, by rw [hexec, ht, Res.outcome_ok], hpos', hwrite, hfill', hpos ▸ hpath.dictSize_eq ▸ hwin, hecho, hfsm',
    herr'.trans herr.symm, hpend', hend.sameConfig, hend.bitCursor_eq⟩

/-- Settles O34: a row of shape `copy` is a well-formed copy instruction with these operands, and `Running.exec_copy`
says what it does, by the induction on the length in `Running.copyBytes_ok`. -/
theorem copyCopiesItsLength : Obligations.CopyCopiesItsLength := by
  intro ins i extra j low s hs hw hinv hf hfill hheld hleft hne hroom
  have ho : copyOperands s.ctx ins =
      some ⟨i, lengthOf i extra, j.toNat, distance s.dictSizeCode.toNat j.toNat low.toNat⟩ := by
    simp only [copyOperands, hs, State.ctx]
  have hwidth : tokenWidth s.ctx ins =
      1 + Rom.lenBits i + Rom.exLenBits i + Rom.offsBits j.toNat + s.dictSizeCode.toNat := by
    simp only [tokenWidth, encode, hs, Bits.cat, lengthBits_width, lengthPartWidth, offsetBits, State.ctx,
      Nat.add_assoc]
  have hcopy := State.Running.exec_copy ⟨hinv, hf⟩ ho hw hfill ⟨hheld, hleft⟩ hne hroom
  simpa only [hwidth, lengthOf, distance, Nat.shiftLeft_eq, Nat.cast_add, Nat.cast_one] using hcopy

/-- Settles O33: `COPY2` is well formed in every context of a running decode, and `Running.exec_copy` says what it
does. -/
theorem shortCopyCopiesTwoBytes : Obligations.ShortCopyCopiesTwoBytes := by
  intro s j low hinv hf hfill hheld hleft hne hroom
  obtain ⟨-, -, -, -, ⟨h4, h6⟩, -⟩ := State.running_iff.mp ⟨hinv, hf⟩
  have hw : wellFormed s.ctx (.copy2 j low) = true := by
    simp [wellFormed, Ctx.sizeLegal, State.ctx, Instr.shape, h4, h6]
  have hwidth : tokenWidth s.ctx (.copy2 j low) = 6 + Rom.offsBits j.toNat := by
    have hlen : lengthPartWidth 0 = 4 := rfl
    simp only [tokenWidth, encode, Instr.shape, Bits.cat, lengthBits_width, offsetBits, hlen]
    omega
  have hcopy := State.Running.exec_copy ⟨hinv, hf⟩ (ins := .copy2 j low)
    (o := ⟨0, 2, j.toNat, distance 2 j.toNat low.toNat⟩) rfl hw hfill ⟨hheld, hleft⟩ hne hroom
  rwa [hwidth, distance, Nat.shiftLeft_eq] at hcopy

/-! ### The literals -/

/-- With its bits held and room, a literal of `k` bits behind its flag consumes them and emits its byte
(43_tokens.md R101, R102). -/
theorem literal_outcome {k : Nat} {b : Byte} {s : State} (hheld : 1 + k ≤ s.bitCount)
    (hroom : s.outputPos < s.outputLen) (hwrite : s.dictWritePos < Config.dictCap) :
    Res.outcome (do let u ← consume 1 s; let u ← consume k u; emit b u) = .next ((s.consumed (1 + k)).emitted b) := by
  have hheld' : k ≤ (s.consumed 1).bitCount := by rw [State.consumed_bitCount]; omega
  rw [consume_ok (by omega), Res.ok_bind, consume_ok hheld', Res.ok_bind, State.consumed_consumed,
    emit_ok (s := s.consumed (1 + k)) hroom hwrite, Res.outcome_ok]

/-- Settles O28: `LIT8` is the literal of 8 bits. -/
theorem fixedLiteralEmitsItsByte : Obligations.FixedLiteralEmitsItsByte := fun s byte hheld hroom hwrite => by
  rw [exec_eq_execShape]
  exact literal_outcome (k := 8) hheld hroom hwrite

/-- Settles O29: a row of shape `litp c` is the literal of `ChBits[c]` bits. -/
theorem prefixCodedLiteralEmitsItsIndex : Obligations.PrefixCodedLiteralEmitsItsIndex := by
  intro ins c s hs hheld hroom hwrite
  rw [exec_eq_execShape, hs]
  exact literal_outcome hheld hroom hwrite

/-! ### The end of the stream -/

theorem exec_endOfStream (s : State) : exec .endOfStream s = execEnd s := exec_eq_execShape .endOfStream s

theorem lengthPartWidth_sentinel : lengthPartWidth 15 = 16 := rfl

/-- Settles O30: `END` is the length part of index 15, of 16 bits, and then `Done`. -/
theorem endGoesToDone : Obligations.EndGoesToDone := by
  intro s hheld
  rw [exec_endOfStream, execEnd, lengthPart_ok (i := 15) hheld, Res.ok_bind, Res.outcome_ok, lengthPartWidth_sentinel]
  rfl

/-! ### The offset prefixes -/

theorem exec_offs {ins : Instr} {j : BitVec 6} (hs : ins.shape = .offs j) (s : State) :
    exec ins s = Res.outcome (offsetPrefix j.toNat s) := by
  rw [exec_eq_execShape, hs]
  rfl

/-- Settles O31: the refill of 14 bits (`refillFetchesJustEnough`), of which a code consumes at most 8. -/
theorem offsetPrefixConsumesItsCode : Obligations.OffsetPrefixConsumesItsCode := by
  intro ins j s hs hinv hfill hleft
  obtain ⟨u, hu, -, -, hcount, hacc, hheld, -, hcursor, -⟩ :=
    (refillFetchesJustEnough s 14 (.inl rfl) hinv hfill).1 hleft
  have hcode := (offsBits_range j).2
  have hk : Rom.offsBits j.toNat ≤ u.bitCount := by omega
  obtain ⟨t, ht, -, hshift, hbits, hmove, -⟩ := consumeDropsTheLowBits u _ hk
  obtain ⟨-, rfl⟩ := consume_eq_ok.mp ht
  refine ⟨_, ?_, ((SameButReader.refl s).of_refill hu).consumed _, hcursor ▸ hmove, hcount ▸ rfl, ?_⟩
  · rw [exec_offs hs, offsetPrefix_eq_ok.mpr ⟨u, hu, hk, rfl⟩, Res.outcome_ok]
  · rw [hshift, hacc, ← hbits, Nat.add_comm, Nat.pow_add, Nat.mod_mul_right_div_self]

/-- Settles O32: the refill of 14 bits faults (`refillFetchesJustEnough`), before anything is consumed. -/
theorem offsetPrefixNeedsFourteenBits : Obligations.OffsetPrefixNeedsFourteenBits := by
  intro ins j s hs hinv hfill hleft
  obtain ⟨t, ht, hfsm, herr, hpos, hcount, -, hbytes, hconfig, -⟩ :=
    (refillFetchesJustEnough s 14 (.inl rfl) hinv hfill).2 hleft
  refine ⟨t, ?_, hfsm, herr, hpos, hcount, hbytes, hconfig⟩
  rw [exec_offs hs, offsetPrefix, ht, Res.error_bind, Res.outcome_error]

/-! ### A step, from the bits -/

section
variable {s : State} (hf : s.fsm = .readToken)
include hf

theorem step_of_full (hp : s.pendingLength = none) (hfull : s.outputPos = s.outputLen) : step s = .next s.finished := by
  simp [step, hf, tokenStep, hp, State.outputFull, hfull]

theorem step_of_room (hp : s.pendingLength = none) (hroom : s.outputPos ≠ s.outputLen) : step s = decodeToken s := by
  simp [step, hf, tokenStep, hp, State.outputFull, hroom]

theorem step_of_pending {length : Nat} (hp : s.pendingLength = some length) : step s = resumeCopy length s := by
  simp [step, hf, tokenStep, hp]

end

theorem decodeToken_of_refill {s r : State} {ins : Instr} (hr : refill Config.tokenLookahead s = .ok r)
    (hd : decode r.ctx r.window = .ok ins) : decodeToken s = exec ins r := by
  simp only [decodeToken, hr, hd]

theorem decodeToken_of_refill_error {s : State} {o : Host.Outcome State Fault Refusal}
    (hr : refill Config.tokenLookahead s = .error o) : decodeToken s = o := by
  simp only [decodeToken, hr]

theorem offsetIndex_eq {ins : Instr} {j : BitVec 6} (hs : ins.shape = .offs j) : offsetIndex ins = j.toNat := by
  simp only [offsetIndex, hs]

/-- Settles O10: the three places a running step can be at, by what `refill` and `decode` answer there. -/
theorem stepRunsTheDecodedInstruction : Obligations.StepRunsTheDecodedInstruction := by
  refine ⟨fun s r ins hf hp hroom hr hd => ?_, fun s o hf hp hroom hr => ?_,
    fun s t ins j length hf hp hd hs ht hf' => ?_⟩
  · rw [step_of_room hf hp hroom, decodeToken_of_refill hr hd]
  · rw [step_of_room hf hp hroom, decodeToken_of_refill_error hr]
  · simp only [step_of_pending hf hp, resumeCopy, hd, ht, hf', offsetIndex_eq hs, if_true]

/-- As far as bits are held, a field of what the stream still delivers is a field of the accumulator
(10_state.md R14). -/
theorem State.Running.field_window {s : State} (hs : s.Running) {lo k : Nat} (h : lo + k ≤ s.bitCount) :
    field s.window lo k = field s.bitAccumulator.toNat lo k := by
  obtain ⟨-, -, -, -, -, ⟨hacc, hcount, -⟩, -⟩ := State.running_iff.mp hs
  have hheld := State.bitAccumulator_fetchedBytes (n := 0) hacc (by omega)
  rw [State.fetchedBytes_zero] at hheld
  apply Nat.eq_of_testBit_eq
  intro i
  by_cases hi : i < k
  · have : lo + i < s.bitCount := by omega
    simp [field, Nat.testBit_mod_two_pow, hheld, this]
  · simp [field, Nat.testBit_mod_two_pow, hi]

theorem State.Running.window_mod_two {s : State} (hs : s.Running) (h : 0 < s.bitCount) :
    s.window % 2 = s.bitAccumulator.toNat % 2 := by
  simpa [field] using hs.field_window (lo := 0) (k := 1) (by omega)

/-- Before a token runs: the reader has 16 bits, there is room, and the decode still runs, in the context it had. -/
theorem State.Running.refilled {s r : State} (hs : s.Running) (hroom : s.outputPos ≠ s.outputLen)
    (hr : refill 16 s = .ok r) : r.Running ∧ 16 ≤ r.bitCount ∧ r.outputPos < r.outputLen ∧ r.ctx = s.ctx := by
  have hpath := tokenPath_of_refill hr
  obtain ⟨hsame, hheld, -⟩ := refill_ok hr
  obtain ⟨hle, -⟩ := hs.dictInv
  refine ⟨hpath.running hs, hheld, ?_, hpath.ctx_eq⟩
  rw [hsame]
  exact Nat.lt_of_le_of_ne hle hroom

/-- A token that completes: the step is its instruction's, and the cursor moves by its width. -/
theorem step_of_reads {s r t : State} {ins : Instr} (hs : s.Running) (hroom : s.outputPos ≠ s.outputLen)
    (hr : refill 16 s = .ok r) (hreads : Reads r.ctx r.window ins) (hexec : exec ins r = .next t)
    (hok : t.fsm ≠ .failed) : step s = .next t ∧ t.bitCursor = s.bitCursor + tokenWidth s.ctx ins := by
  obtain ⟨hf, -, hp, -⟩ := State.running_iff.mp hs
  have hstep : step s = .next t := by rw [step_of_room hf hp hroom, decodeToken_of_refill hr hreads.decode_eq, hexec]
  exact ⟨hstep, cursorAdvancesByTokenWidth s r t ins hf hp hroom hr hreads.decode_eq hstep hok⟩

/-- Settles O35: the 16 bits held reach the flag and the 8 bits behind it, which read as `LIT8`. -/
theorem modeZeroLiteralTokenEmitsEightBits : Obligations.ModeZeroLiteralTokenEmitsEightBits := by
  intro s r hinv hf hroom hr hm hflag
  obtain ⟨hrun, hheld, hroom', hctx⟩ := State.Running.refilled ⟨hinv, hf⟩ hroom hr
  have hflag' := (hrun.window_mod_two (by omega)).trans hflag
  have hbyte := hrun.field_window (lo := 1) (k := 8) (by omega)
  obtain ⟨byte, hb⟩ := exists_toNat_eq (field_lt r.bitAccumulator.toNat 1 8)
  have hreads : Reads r.ctx r.window (.lit8 byte) := .lit8 byte rfl (hctx ▸ hm) rfl hflag' (hbyte.trans hb.symm)
  have hexec := fixedLiteralEmitsItsByte r byte (by omega) hroom' hrun.dictWritePos_lt_dictCap
  have hf' : r.fsm ≠ .failed := by simp [hrun.2]
  obtain ⟨hstep, hmove⟩ := step_of_reads ⟨hinv, hf⟩ hroom hr hreads hexec hf'
  exact ⟨byte, by simpa [field, Nat.shiftRight_eq_div_pow] using hb, _, hstep, hmove, rfl⟩

/-- Settles O36: the 16 bits held reach the flag and the longest literal code, of 13 bits, behind it; the code found
there reads as its `LITP` row. -/
theorem modeOneLiteralTokenEmitsItsIndex : Obligations.ModeOneLiteralTokenEmitsItsIndex := by
  intro s r hinv hf hroom hr hm hflag
  obtain ⟨hrun, hheld, hroom', hctx⟩ := State.Running.refilled ⟨hinv, hf⟩ hroom hr
  have hflag' := (hrun.window_mod_two (by omega)).trans hflag
  have hcode := hrun.field_window (lo := 1) (k := 13) (by omega)
  have hscan : Rom.scanCh (r.window >>> 1) = Rom.scanCh (r.bitAccumulator.toNat / 2) :=
    Rom.scan_congr (fun e he => have ⟨_, hmax, _⟩ := Rom.widthsIn_iff.mp Rom.chTable_widths e he; hmax) hcode
  obtain ⟨k, hk⟩ := Rom.exists_scanCh (r.bitAccumulator.toNat / 2)
  obtain ⟨c, rfl⟩ := exists_toNat_eq (n := 8) (Rom.scanCh_eq_some_iff.mp hk).1
  obtain ⟨ins, hs⟩ := exists_litp_row c
  obtain ⟨h4, h13⟩ := chBits_range c
  have hreads : Reads r.ctx r.window ins := .litp c rfl (hctx ▸ hm) hs hflag' (hscan.trans hk)
  have hexec := prefixCodedLiteralEmitsItsIndex ins c r hs (by omega) hroom' hrun.dictWritePos_lt_dictCap
  have hf' : r.fsm ≠ .failed := by simp [hrun.2]
  obtain ⟨hstep, hmove⟩ := step_of_reads ⟨hinv, hf⟩ hroom hr hreads hexec hf'
  have hwidth : tokenWidth s.ctx ins = 1 + Rom.chBits c.toNat := by simp only [tokenWidth, encode, hs, Bits.cat]
  refine ⟨c.toNat, c.isLt, hk, h4, h13, _, hstep, by simpa only [hwidth, Nat.cast_add, Nat.cast_one] using hmove, ?_⟩
  rw [BitVec.ofNat_toNat, BitVec.setWidth_eq]

/-- Settles O37: the 16 bits held are those of `END`, which is read before anything else; a full output is looked at
before any bit. -/
theorem sentinelEndsTheRun : Obligations.SentinelEndsTheRun := by
  intro s hinv hf
  obtain ⟨-, -, hp, -⟩ := State.running_iff.mp ⟨hinv, hf⟩
  refine ⟨fun r hroom hr hbits => ?_, step_of_full hf hp⟩
  obtain ⟨hrun, hheld, -⟩ := State.Running.refilled ⟨hinv, hf⟩ hroom hr
  have hwindow : field r.window 0 16 = 0xFF01 := (hrun.field_window (by omega)).trans hbits
  exact (step_of_reads ⟨hinv, hf⟩ hroom hr (.endOfStream rfl rfl hwindow) (endGoesToDone r hheld) nofun).1

/-! ### The next states of a literal and of the end of the stream

Neither can fault: `consume` and `emit` end a step only where the model has no next state. -/

theorem consume_meets_eq (k : Nat) (u : State) : (consume k u).Meets (· = u.consumed k) (fun _ => False) := by
  unfold consume
  split
  · rfl
  · trivial

theorem emit_meets_eq (b : Byte) (u : State) : (emit b u).Meets (· = u.emitted b) (fun _ => False) := by
  unfold emit
  split
  · trivial
  · split
    · trivial
    · rfl

theorem Res.Meets.eq_of_next {r : Res State} {u t : State} (h : r.Meets (· = u) (fun _ => False))
    (ht : r.outcome = .next t) : t = u := (h.outcome ht).elim id False.elim

/-- What follows an operation with one result meets what it meets after that result. -/
theorem Res.Meets.bind_eq {α : Type} {r : Res State} {u : State} {f : State → Res α} {P : α → Prop} {Q : State → Prop}
    (hr : r.Meets (· = u) (fun _ => False)) (hf : (f u).Meets P Q) : Res.Meets (r >>= f) P Q := by
  match r, hr with
  | .ok a, ha => exact (show a = u from ha) ▸ hf
  | .error (.fault _), _ => trivial
  | .error (.refused _), _ => trivial

theorem literal_meets_eq (k : Nat) (b : Byte) (s : State) :
    Res.Meets (do let u ← consume 1 s; let u ← consume k u; emit b u) (· = (s.consumed (1 + k)).emitted b)
      (fun _ => False) := by
  rw [← State.consumed_consumed]
  exact (consume_meets_eq 1 s).bind_eq ((consume_meets_eq k _).bind_eq (emit_meets_eq b _))

theorem lengthPart_meets_eq (i : Nat) (s : State) :
    (lengthPart i s).Meets (· = s.consumed (lengthPartWidth i)) (fun _ => False) := by
  rw [lengthPartWidth, ← State.consumed_consumed, ← State.consumed_consumed]
  exact (consume_meets_eq 1 s).bind_eq ((consume_meets_eq _ _).bind_eq (consume_meets_eq _ _))

theorem exec_literal_next {ins : Instr} {b : Byte} {s t : State} (hs : ins.shape = .lit8 b ∨ ins.shape = .litp b)
    (h : exec ins s = .next t) : ∃ k, t = (s.consumed k).emitted b := by
  rw [exec_eq_execShape] at h
  rcases hs with hs | hs <;> rw [hs] at h
  · exact ⟨_, (literal_meets_eq 8 b s).eq_of_next h⟩
  · exact ⟨_, (literal_meets_eq (Rom.chBits b.toNat) b s).eq_of_next h⟩

theorem exec_endOfStream_next {s t : State} (h : exec .endOfStream s = .next t) : ∃ k, t = (s.consumed k).finished := by
  have hm : Res.Meets (do let u ← lengthPart 15 s; .ok u.finished) (· = (s.consumed (lengthPartWidth 15)).finished)
      (fun _ => False) := (lengthPart_meets_eq 15 s).bind_eq rfl
  exact ⟨_, hm.eq_of_next ((exec_endOfStream s).symm.trans h)⟩

/-- Settles O41: a literal's next state is `emitted` after `consumed`. -/
theorem literalFrame : Obligations.LiteralFrame := by
  rintro ins s t ⟨b, hs⟩ h
  obtain ⟨k, rfl⟩ := exec_literal_next hs h
  exact ⟨⟨rfl, rfl, rfl, rfl, rfl, rfl, rfl, rfl⟩, rfl, rfl, rfl, rfl, fun a ha => Memory.read_write_other _ _ ha,
    fun a ha => Memory.read_write_other _ _ ha⟩

/-! ### How many bytes a token emits

Only `emit` moves `outputPos`. With a bound on it, the frames of the copies and of the offset rows follow from their
`TokenPath`. -/

/-- After `L` more bytes `outputPos` is not beyond `n`. -/
def State.EmitsWithin (n L : Nat) (u : State) : Prop := u.outputPos + L ≤ n

section
variable {n L : Nat} {u : State} (h : u.EmitsWithin n L)
include h

theorem State.EmitsWithin.raised (e : ErrKind) : (u.raised e).EmitsWithin n 0 := (Nat.le_add_right _ L).trans h

theorem fetchByte_emitsWithin : (fetchByte u).Meets (State.EmitsWithin n L) (State.EmitsWithin n 0) := by
  rcases fetchByte_cases u with ⟨b, -, -, he⟩ | ⟨-, he⟩ | ⟨-, -, he⟩ <;> rw [he]
  · exact h
  · exact h.raised _
  · trivial

theorem refillLoop_emitsWithin (fuel N : Nat) :
    (refillLoop fuel N u).Meets (State.EmitsWithin n L) (State.EmitsWithin n 0) := by
  induction fuel generalizing u with
  | zero => exact h
  | succ fuel ih =>
    rw [refillLoop]
    split
    · exact (fetchByte_emitsWithin h).bind fun _ hv => ih hv
    · exact h

theorem consume_emitsWithin (k : Nat) : (consume k u).Meets (State.EmitsWithin n L) (State.EmitsWithin n 0) := by
  unfold consume
  split
  · exact h
  · trivial

theorem offsetPrefix_emitsWithin (j : Nat) :
    (offsetPrefix j u).Meets (State.EmitsWithin n L) (State.EmitsWithin n 0) :=
  (refillLoop_emitsWithin h _ _).bind fun _ hv => consume_emitsWithin hv _

theorem readBack_emitsWithin (D : Nat) : (readBack D u).Meets (fun _ => True) (State.EmitsWithin n 0) := by
  unfold readBack
  split
  · exact h.raised _
  · split
    · trivial
    · cases u.dict.read (u.readBackPos D) <;> trivial

theorem copyBytes_emitsWithin (D : Nat) :
    (copyBytes L D u).Meets (State.EmitsWithin n 0) (State.EmitsWithin n 0) := by
  induction L generalizing u with
  | zero => exact h
  | succ L ih =>
    rw [copyBytes]
    split
    · exact h.raised _
    · refine (readBack_emitsWithin h D).bind fun b _ => (emit_meets_eq b u).bind_eq (ih ?_)
      unfold State.EmitsWithin at *
      rw [State.emitted_outputPos]
      omega

theorem copyBody_emitsWithin (j low : Nat) :
    (copyBody L j low u).Meets (State.EmitsWithin n 0) (State.EmitsWithin n 0) :=
  (consume_emitsWithin h _).bind fun _ hv => copyBytes_emitsWithin hv _

end

/-- A copy emits its length at most, completed or faulted. -/
theorem copyToken_outputPos_le {i e j low : Nat} {s t : State} (h : copyToken i e j low s = .next t) :
    t.outputPos ≤ s.outputPos + lengthOf i e := by
  have hstart : (s.consumed (lengthPartWidth i)).EmitsWithin (s.outputPos + lengthOf i e) (lengthOf i e) :=
    Nat.le_refl _
  refine Res.Meets.next (P := State.EmitsWithin (s.outputPos + lengthOf i e) 0) ?_ h
  exact (lengthPart_meets_eq i s).bind_eq
    ((offsetPrefix_emitsWithin hstart j).bind fun _ hu => copyBody_emitsWithin hu j low)

theorem offsetPrefix_outputPos_le {j : Nat} {s t : State} (h : Res.outcome (offsetPrefix j s) = .next t) :
    t.outputPos ≤ s.outputPos :=
  (offsetPrefix_emitsWithin (show s.EmitsWithin s.outputPos 0 from Nat.le_refl _) j).next h

/-! ### What a token changes besides the reader -/

theorem TokenPath.sameStatus {s u : State} {n : Nat} (h : TokenPath s n u) :
    u.fsm = s.fsm ∧ u.err = s.err ∧ u.pendingLength = s.pendingLength := by
  induction h with
  | start => exact ⟨rfl, rfl, rfl⟩
  | consumed k _ _ ih => exact ih
  | fetched b _ _ _ ih => exact ih
  | emitted b _ _ _ ih => exact ih

/-- A token that has emitted nothing has changed the reader at most. -/
theorem TokenPath.sameButReader {s u : State} {n : Nat} (h : TokenPath s n u) (hpos : u.outputPos ≤ s.outputPos) :
    SameButReader s u := by
  induction h with
  | start => exact SameButReader.refl s
  | consumed k _ _ ih => exact (ih hpos).consumed k
  | @fetched n u b _ _ _ ih =>
    unfold SameButReader
    rw [ih hpos]
    rfl
  | emitted b hu _ _ _ =>
    obtain ⟨hle, -⟩ := hu.out_frame
    rw [State.emitted_outputPos] at hpos
    omega

/-- A token writes `DICT` byte by byte from `dictWritePos` on, around the window (42_dictionary.md R90). -/
theorem TokenPath.dict_frame {s u : State} {n : Nat} (h : TokenPath s n u) (hs : s.dictWritePos < s.dictSize) :
    u.dictWritePos = (s.dictWritePos + (u.outputPos - s.outputPos)) % s.dictSize ∧
    ∀ a, (∀ k < u.outputPos - s.outputPos, a ≠ (s.dictWritePos + k) % s.dictSize) → u.dict.read a = s.dict.read a := by
  induction h with
  | start => simp [Nat.mod_eq_of_lt hs]
  | consumed k _ _ ih => exact ih
  | fetched b _ _ _ ih => exact ih
  | @emitted n u b hu _ _ ih =>
    obtain ⟨hwrite, hread⟩ := ih
    obtain ⟨hle, -⟩ := hu.out_frame
    rw [State.emitted_outputPos, Nat.succ_sub hle]
    refine ⟨by rw [State.emitted_dictWritePos, hu.dictSize_eq, hwrite, Nat.mod_add_mod, Nat.add_assoc], fun a ha => ?_⟩
    rw [State.emitted_dict, Memory.read_write_other _ _ (hwrite ▸ ha _ (Nat.lt_succ_self _))]
    exact hread a fun k hk => ha k (Nat.lt_succ_of_lt hk)

/-- A token that completes or faults leaves the configuration, and the status but for its fault. -/
theorem sameConfig_and_sameStatusOrFault {s t : State} {n : Nat} (h : TokenPath s n t ∨ Faulted s t) :
    SameConfig s t ∧ SameStatusOrFault s t := by
  rcases h with ht | ⟨n, u, e, hu, he, rfl⟩
  · exact ⟨ht.sameConfig, .inl ht.sameStatus⟩
  · exact ⟨hu.sameConfig, .inr ⟨rfl, he, rfl⟩⟩

/-- A token that completes or faults has left `OUT` and `DICT` as a place on its path has. -/
theorem exists_tokenPath {s t : State} {n : Nat} (h : TokenPath s n t ∨ Faulted s t) :
    ∃ m u, TokenPath s m u ∧ SameBytes u t := by
  rcases h with ht | ⟨m, u, e, hu, -, rfl⟩
  · exact ⟨n, t, ht, (SameButReader.refl t).sameBytes⟩
  · exact ⟨m, u, hu, rfl, rfl, rfl, fun _ => rfl, fun _ => rfl⟩

/-- Settles O43: `END` has one next state; an offset row emits nothing, so its path changes the reader only. -/
theorem nonStoringFrame : Obligations.NonStoringFrame := by
  refine fun s t => ⟨fun h => ?_, fun ins j hs h => ?_⟩
  · obtain ⟨k, rfl⟩ := exec_endOfStream_next h
    exact ⟨⟨rfl, rfl, rfl, rfl, rfl, rfl, rfl, rfl⟩, ⟨rfl, rfl, rfl, fun _ => rfl, fun _ => rfl⟩, rfl, rfl, rfl⟩
  · rw [exec_offs hs] at h
    have hend := (offsetPrefix_meets (.start (s := s)) j.toNat).outcome h
    have hpos := offsetPrefix_outputPos_le h
    obtain ⟨hconfig, hstatus⟩ := sameConfig_and_sameStatusOrFault hend
    refine ⟨hconfig, ?_, hstatus⟩
    rcases hend with ht | ⟨n, u, e, hu, -, rfl⟩
    · exact (ht.sameButReader hpos).sameBytes
    · exact (hu.sameButReader hpos).sameBytes

theorem exec_of_copyOperands {c : Ctx} {ins : Instr} {o : CopyOperands} (ho : copyOperands c ins = some o) (s : State) :
    ∃ i e j low, exec ins s = copyToken i e j low s ∧ lengthOf i e = o.length := by
  rw [exec_eq_execShape]
  unfold copyOperands at ho
  cases hs : ins.shape with
  | copy2 j low =>
    rw [hs] at ho
    obtain rfl := Option.some.inj ho
    exact ⟨0, 0, j.toNat, low.toNat, rfl, rfl⟩
  | copy i e j low =>
    rw [hs] at ho
    obtain rfl := Option.some.inj ho
    exact ⟨i, e, j.toNat, low.toNat, rfl, rfl⟩
  | lit8 | litp | endOfStream | offs => simp [hs] at ho

/-- Settles O42: a copy emits at most its length, and its path writes nothing but what it emits. -/
theorem copyFrame : Obligations.CopyFrame := by
  intro ins o s t ho h
  obtain ⟨i, e, j, low, hexec, hlen⟩ := exec_of_copyOperands ho s
  have hcopy := hexec.symm.trans h
  have hend := copyToken_next hcopy
  have hpos : t.outputPos ≤ s.outputPos + o.length := hlen ▸ copyToken_outputPos_le hcopy
  obtain ⟨hconfig, hstatus⟩ := sameConfig_and_sameStatusOrFault hend
  obtain ⟨hle, hout⟩ := emittedOutputIsNeverRewritten ins s t h
  refine ⟨hconfig, hstatus, fun a ha => hout a (by omega), fun hwrite a ha => ?_⟩
  obtain ⟨n, u, hu, hpos', -, -, hdict, -⟩ := exists_tokenPath hend
  rw [hdict a]
  exact (hu.dict_frame hwrite).2 a fun k hk => ha k (by omega)

end Sys2Proof.Machine

namespace Sys2Proof

open Machine

/-- A copy's length part lies within the 16 bits that a token is given (30_encoding.md R54). -/
theorem CopyFields.lengthPartWidth_le {c : Ctx} {i e low : Nat} (h : CopyFields c i e low) : lengthPartWidth i ≤ 16 := by
  have := (lengthPart_range i h.index_lt).2
  unfold lengthPartWidth
  omega

end Sys2Proof

namespace Sys2Proof.Machine

/-! ### A running step, by what it reads -/

theorem State.Running.sizeLegal {s : State} (hs : s.Running) : s.ctx.sizeLegal = true := by
  obtain ⟨-, -, -, -, hhead, -⟩ := State.running_iff.mp hs
  rwa [Ctx.sizeLegal, Bool.and_eq_true, decide_eq_true_eq, decide_eq_true_eq]

/-- In a running decode with room the step is the refill where that ends it, and otherwise an instruction that stands at
the start of the stream, run with 16 bits held (43_tokens.md R100, 44_fsm.md R125). -/
theorem State.Running.step_cases {s : State} (hs : s.Running) (hroom : s.outputPos ≠ s.outputLen) :
    (∃ o, refill 16 s = .error o ∧ step s = o) ∨
    ∃ r ins, refill 16 s = .ok r ∧ r.Running ∧ 16 ≤ r.bitCount ∧ r.outputPos < r.outputLen ∧
      Reads r.ctx r.window ins ∧ step s = exec ins r := by
  obtain ⟨hf, -, hp, -⟩ := State.running_iff.mp hs
  rw [step_of_room hf hp hroom]
  cases hr : refill 16 s with
  | error o => exact .inl ⟨o, rfl, decodeToken_of_refill_error hr⟩
  | ok r =>
    obtain ⟨hrun, hheld, hroom', -⟩ := hs.refilled hroom hr
    obtain ⟨ins, hd⟩ := everyBitPatternDecodes r.ctx r.window hrun.sizeLegal
    exact .inr ⟨r, ins, rfl, hrun, hheld, hroom', reads_of_decode hd, decodeToken_of_refill hr hd⟩

/-! ### The bits held, as those of a stream -/

/-- The accumulator holds the first bits of the stream `T`, as many as `bitCount` says (10_state.md R11, R12). -/
def State.Holds (s : State) (T : Nat) : Prop := s.bitAccumulator.toNat = T % 2 ^ s.bitCount

theorem State.Running.holds_window {s : State} (hs : s.Running) : s.Holds s.window := by
  obtain ⟨-, -, -, -, -, ⟨hacc, hcount, -⟩, -⟩ := State.running_iff.mp hs
  simpa [State.Holds] using State.bitAccumulator_fetchedBytes (n := 0) hacc (by omega)

section
variable {s : State} {T : Nat} (h : s.Holds T)
include h

theorem State.Holds.consumed {k : Nat} (hk : k ≤ s.bitCount) : (s.consumed k).Holds (T >>> k) := by
  have hsplit : 2 ^ s.bitCount = 2 ^ k * 2 ^ (s.bitCount - k) := by rw [← Nat.pow_add, Nat.add_sub_cancel' hk]
  rw [State.Holds, State.consumed_bitAccumulator, BitVec.toNat_ushiftRight, h, State.consumed_bitCount,
    Nat.shiftRight_eq_div_pow, Nat.shiftRight_eq_div_pow, hsplit, Nat.mod_mul_right_div_self]

theorem State.Holds.mod_eq {k : Nat} (hk : k ≤ s.bitCount) : s.bitAccumulator.toNat % 2 ^ k = T % 2 ^ k := by
  rw [h, Nat.mod_mod_of_dvd _ (Nat.pow_dvd_pow 2 hk)]

theorem State.Holds.peek_eq {k : Nat} (hk : k ≤ s.bitCount) : peek k s = .ok (T % 2 ^ k) := by
  rw [peek_ok hk, h.mod_eq hk]

/-- With enough bits for the widest code, the spec's scan of the accumulator finds what a scan of the stream finds
(31_rom_tables.md R71). -/
theorem Pseudo.scan_eq {tab : List Rom.Code} {k : Nat} (hw : ∀ e ∈ tab, e.bits ≤ s.bitCount)
    (hk : Rom.scan tab T = some k) : Pseudo.scan tab s = .ok k := by
  induction tab generalizing k with
  | nil => cases hk
  | cons e rest ih =>
    rw [Pseudo.scan, h.peek_eq (hw e (by simp)), Res.ok_bind]
    rw [Rom.scan] at hk
    split at hk
    case isTrue he => rw [if_pos (beq_iff_eq.mp he), Option.some.inj hk]
    case isFalse he =>
      obtain ⟨k', hk', rfl⟩ := Option.map_eq_some_iff.mp hk
      rw [if_neg fun heq => he (beq_iff_eq.mpr heq), ih (fun d hd => hw d (by simp [hd])) hk', Res.ok_bind]

end

/-- A consumed bit is the stream's first no more. -/
theorem State.window_consumed {s : State} {k : Nat} (hk : k ≤ s.bitCount) : (s.consumed k).window = s.window >>> k := by
  have hnext : nextBytes 4 (s.consumed k).inputPos (s.consumed k) = nextBytes 4 s.inputPos s := rfl
  have hshift (m : Nat) : m <<< s.bitCount >>> k = m <<< (s.bitCount - k) := by
    obtain ⟨c, hc⟩ := Nat.exists_eq_add_of_le' hk
    rw [hc, Nat.add_sub_cancel, Nat.shiftLeft_add, Nat.shiftLeft_shiftRight]
  rw [State.window, State.window, hnext, State.consumed_bitAccumulator, State.consumed_bitCount,
    BitVec.toNat_ushiftRight, Nat.shiftRight_or_distrib, hshift]

/-- A loop of fetches that all succeed is `fetchedBytes`, whether or not the host has filled `IN` beyond them. -/
theorem exists_fetchedBytes_of_refillLoop {fuel N : Nat} {s t : State} (h : refillLoop fuel N s = .ok t) :
    ∃ n, t = s.fetchedBytes n := by
  induction fuel generalizing s with
  | zero =>
    obtain rfl := Except.ok.inj h
    exact ⟨0, s.fetchedBytes_zero.symm⟩
  | succ fuel ih =>
    rw [refillLoop] at h
    split at h
    · obtain ⟨u, hu, ht⟩ := Res.bind_eq_ok.mp h
      rcases fetchByte_cases s with ⟨b, hlt, hb, he⟩ | ⟨-, he⟩ | ⟨-, -, he⟩ <;> rw [he] at hu <;> cases hu
      obtain ⟨n, rfl⟩ := ih ht
      exact ⟨n + 1, State.fetchedBytes_fetched hlt hb n⟩
    · obtain rfl := Except.ok.inj h
      exact ⟨0, s.fetchedBytes_zero.symm⟩

/-- A refill brings the next bits of the stream (41_bit_reader.md R80, R84). -/
theorem State.Running.holds_of_refill {s t : State} {N : Nat} (hs : s.Running) (hN : N ≤ Config.tokenLookahead)
    (h : refill N s = .ok t) : t.Holds s.window := by
  obtain ⟨-, -, -, -, -, ⟨-, hcount, -⟩, -⟩ := State.running_iff.mp ((TokenPath.start.of_refill hN h).running hs)
  obtain ⟨-, -, -, -, -, ⟨hacc, -⟩, -⟩ := State.running_iff.mp hs
  obtain ⟨n, rfl⟩ := exists_fetchedBytes_of_refillLoop h
  rw [State.fetchedBytes_bitCount] at hcount
  exact State.bitAccumulator_fetchedBytes hacc (by omega)

/-! ### The spec's pseudocode where the bits are held -/

theorem Pseudo.decodeToken_of_refill {s r : State} (hr : refill 16 s = .ok r) (hheld : 16 ≤ r.bitCount) :
    Pseudo.decodeToken s = Pseudo.decodeToken r := by
  rw [Pseudo.decodeToken, Pseudo.decodeToken, hr, refill_of_le hheld]

section
variable {r : State} {T : Nat} (hheld : 16 ≤ r.bitCount) (h : r.Holds T)
include hheld h

theorem Pseudo.decodeToken_of_flag_zero (hf : T % 2 = 0) :
    Pseudo.decodeToken r =
      if r.literalModeFlag = 0 then Pseudo.lit8 (r.consumed 1) else Pseudo.litp (r.consumed 1) := by
  have hflag : peek 1 r = .ok 0 := by rw [h.peek_eq (by omega), Nat.pow_one, hf]
  rw [Pseudo.decodeToken, refill_of_le hheld, Res.ok_bind, hflag, Res.ok_bind, consume_ok (by omega), Res.ok_bind,
    if_pos rfl, State.consumed_literalModeFlag]

theorem Pseudo.lit8_eq {b : Byte} (hb : field T 1 8 = b.toNat) :
    Pseudo.lit8 (r.consumed 1) = (do let u ← consume 8 (r.consumed 1); emit b u) := by
  have hbits : 8 ≤ (r.consumed 1).bitCount := by rw [State.consumed_bitCount]; omega
  have hpeek := (h.consumed (k := 1) (by omega)).peek_eq hbits
  rw [show (T >>> 1) % 2 ^ 8 = b.toNat from hb] at hpeek
  rw [Pseudo.lit8, hpeek, Res.ok_bind, BitVec.ofNat_toNat, BitVec.setWidth_eq]

theorem Pseudo.litp_eq {b : Byte} (hb : Rom.scanCh (T >>> 1) = some b.toNat) :
    Pseudo.litp (r.consumed 1) = (do let u ← consume (Rom.chBits b.toNat) (r.consumed 1); emit b u) := by
  have hwidths : ∀ e ∈ Rom.chTable, e.bits ≤ (r.consumed 1).bitCount := fun e he => by
    have := (Rom.widthsIn_iff.mp Rom.chTable_widths e he).2.1
    rw [State.consumed_bitCount]
    omega
  rw [Pseudo.litp, Pseudo.scan_eq (h.consumed (by omega)) hwidths hb, Res.ok_bind, BitVec.ofNat_toNat,
    BitVec.setWidth_eq]

theorem Pseudo.lengthPart_eq {i e : Nat} (hi : i < 16) (hT : (lengthBits i e).At T 0) :
    Pseudo.lengthPart (r.consumed 1) = .ok (lengthOf i e, r.consumed (lengthPartWidth i)) := by
  obtain ⟨-, hscan, hextra⟩ := (lengthBits_at_iff hi).mp hT
  have hrange := lengthPart_range i hi
  have hwidths : ∀ e ∈ Rom.lenCodes, e.bits ≤ (r.consumed 1).bitCount := fun e he => by
    have := (Rom.widthsIn_iff.mp Rom.lenCodes_widths e he).2.1
    rw [State.consumed_bitCount]
    omega
  have hcode : Rom.lenBits i ≤ (r.consumed 1).bitCount := by rw [State.consumed_bitCount]; omega
  have hbits : Rom.exLenBits i ≤ (r.consumed (1 + Rom.lenBits i)).bitCount := by rw [State.consumed_bitCount]; omega
  have hpeek := (h.consumed (k := 1 + Rom.lenBits i) (by omega)).peek_eq hbits
  rw [show (T >>> (1 + Rom.lenBits i)) % 2 ^ Rom.exLenBits i = e from hextra] at hpeek
  rw [Pseudo.lengthPart, Pseudo.scan_eq (h.consumed (by omega)) hwidths hscan, Res.ok_bind, consume_ok hcode,
    Res.ok_bind, State.consumed_consumed, hpeek, Res.ok_bind, consume_ok hbits, Res.ok_bind, State.consumed_consumed,
    lengthPartWidth]

/-- Behind a length part the spec's token ends the stream or goes on with the offset part (43_tokens.md R103, R104). -/
theorem Pseudo.decodeToken_of_lengthBits {i e : Nat} (hi : i < 16) (hT : (lengthBits i e).At T 0) :
    Pseudo.decodeToken r =
      if lengthOf i e = 519 then .ok (r.consumed (lengthPartWidth i)).finished
      else Pseudo.offsetPrefix (r.consumed (lengthPartWidth i)) >>= fun p =>
        if lengthOf i e = 2 then Pseudo.copy2 p.1 p.2 else Pseudo.copy (lengthOf i e) p.1 p.2 := by
  obtain ⟨hf, -⟩ := (lengthBits_at_iff hi).mp hT
  have hflag : peek 1 r = .ok 1 := by rw [h.peek_eq (by omega), Nat.pow_one, hf]
  rw [Pseudo.decodeToken, refill_of_le hheld, Res.ok_bind, hflag, Res.ok_bind, consume_ok (by omega), Res.ok_bind,
    if_neg (by decide), Pseudo.lengthPart_eq hheld h hi hT, Res.ok_bind]

end

/-- With the offset scan's answer known, the spec's `offsetPrefix` is the machine's (43_tokens.md R105). -/
theorem Pseudo.offsetPrefix_eq {u : State} {j : BitVec 6} (hu : u.Running)
    (hj : Rom.scanOffs u.window = some j.toNat) :
    Pseudo.offsetPrefix u = Machine.offsetPrefix j.toNat u >>= fun v => .ok (j.toNat, v) := by
  rw [Pseudo.offsetPrefix, Machine.offsetPrefix]
  cases hr : refill Config.offsetLookahead u with
  | error o => rfl
  | ok v =>
    obtain ⟨-, hcount : 14 ≤ v.bitCount, -⟩ := refill_ok hr
    have hwidths : ∀ e ∈ Rom.offsTable, e.bits ≤ v.bitCount := fun e he => by
      have := (Rom.widthsIn_iff.mp Rom.offsTable_widths e he).2.1
      omega
    have hcode := (offsBits_range j).2
    rw [Res.ok_bind, Res.ok_bind, Pseudo.scan_eq (hu.holds_of_refill (by decide) hr) hwidths hj, Res.ok_bind,
      consume_ok (by omega), Res.ok_bind]

/-- The spec's two copies are the machine's one, whose low bits are those still to be delivered (43_tokens.md R106,
R107). -/
theorem Pseudo.copy_eq {v : State} {T length j : Nat} (h : v.Holds T)
    (hbits : lowWidth v.dictSizeCode.toNat length ≤ v.bitCount) :
    (if length = 2 then Pseudo.copy2 j v else Pseudo.copy length j v) =
      copyBody length j (T % 2 ^ lowWidth v.dictSizeCode.toNat length) v := by
  rw [copyBody]
  unfold lowWidth at *
  split at hbits
  case isTrue h2 => rw [if_pos h2, if_pos h2, Pseudo.copy2, h.peek_eq hbits, Res.ok_bind, h2, distance]
  case isFalse h2 => rw [if_neg h2, if_neg h2, Pseudo.copy, h.peek_eq hbits, Res.ok_bind, distance]

/-- The offset part and the bytes of a copy, once its length part is consumed (43_tokens.md R105 to R107). -/
theorem Pseudo.offsetPart_eq {u : State} {length low : Nat} {j : BitVec 6} (hu : u.Running)
    (hj : Rom.scanOffs u.window = some j.toNat)
    (hlow : field u.window (Rom.offsBits j.toNat) (lowWidth u.dictSizeCode.toNat length) = low) :
    (Pseudo.offsetPrefix u >>= fun p => if length = 2 then Pseudo.copy2 p.1 p.2 else Pseudo.copy length p.1 p.2) =
      Machine.offsetPrefix j.toNat u >>= copyBody length j.toNat low := by
  rw [Pseudo.offsetPrefix_eq hu hj]
  cases hp : Machine.offsetPrefix j.toNat u with
  | error o => rfl
  | ok v =>
    obtain ⟨r, hr, hcode, rfl⟩ := offsetPrefix_eq_ok.mp hp
    obtain ⟨-, hcount : 14 ≤ r.bitCount, -⟩ := refill_ok hr
    have hsize : r.dictSizeCode = u.dictSizeCode := (TokenPath.start.of_refill (by decide) hr).dictSizeCode_eq
    obtain ⟨-, -, -, -, hhead, -⟩ := State.running_iff.mp hu
    have hwidth := lowWidth_le hhead.2 length
    have hcode' := (offsBits_range j).2
    have hholds := (hu.holds_of_refill (by decide) hr).consumed hcode
    rw [Res.ok_bind, Res.ok_bind, Res.ok_bind, Pseudo.copy_eq hholds, State.consumed_dictSizeCode, hsize,
      show (u.window >>> Rom.offsBits j.toNat) % 2 ^ lowWidth u.dictSizeCode.toNat length = low from hlow]
    rw [State.consumed_dictSizeCode, State.consumed_bitCount, hsize]
    omega

/-- The spec's token is the instruction that stands at the start of the stream. -/
theorem State.Running.pseudo_decodeToken {r : State} {ins : Instr} (hr : r.Running) (hheld : 16 ≤ r.bitCount)
    (h : Reads r.ctx r.window ins) : Res.outcome (Pseudo.decodeToken r) = exec ins r := by
  have hholds := hr.holds_window
  rw [exec_eq_execShape]
  cases h with
  | offs j ha _ _ => cases ha
  | lit8 b _ hm hs hf hT =>
    have hm' : r.literalModeFlag = 0 := hm
    rw [Pseudo.decodeToken_of_flag_zero hheld hholds hf, if_pos hm', Pseudo.lit8_eq hheld hholds hT,
      hs, execShape, execLit8, consume_ok (s := r) (by omega), Res.ok_bind]
  | litp b _ hm hs hf hT =>
    have hm' : r.literalModeFlag ≠ 0 := by
      rw [show r.literalModeFlag = 1 from hm]
      decide
    rw [Pseudo.decodeToken_of_flag_zero hheld hholds hf, if_neg hm', Pseudo.litp_eq hheld hholds hT,
      hs, execShape, litp, consume_ok (s := r) (by omega), Res.ok_bind]
  | endOfStream _ hs hT =>
    rw [Pseudo.decodeToken_of_lengthBits hheld hholds (by decide) hT, hs, execShape, execEnd,
      if_pos (show lengthOf 15 255 = 519 from rfl), lengthPart_ok (i := 15) hheld, Res.ok_bind]
  | copy i e j low _ h hs hT =>
    obtain ⟨hlen, hscan, hlow⟩ := h.at_iff.mp hT
    have hheld' := h.lengthPartWidth_le.trans hheld
    have hwindow := State.window_consumed hheld'
    have hoffset := Pseudo.offsetPart_eq (u := r.consumed (lengthPartWidth i)) (length := lengthOf i e) (low := low)
      (j := j) ((TokenPath.start.consumed _ hheld').running hr) (hwindow ▸ hscan)
      (by rw [hwindow, field, ← Nat.shiftRight_add]; exact hlow)
    rw [← exec_eq_execShape, h.exec_eq hr.sizeLegal hs, Pseudo.decodeToken_of_lengthBits hheld hholds h.index_lt hlen,
      if_neg h.length_ne, hoffset, copyToken, lengthPart_ok hheld', Res.ok_bind]

/-- Settles O11: after the same refill the spec's token, which scans the bits as they come, is the instruction that
stands at the start of the stream, which is what the machine runs. -/
theorem stepIsTheSpecsPseudocode : Obligations.StepIsTheSpecsPseudocode := by
  intro s hs hf
  have hrun : s.Running := ⟨hs, hf⟩
  obtain ⟨-, -, hp, -⟩ := hs
  rw [Pseudo.step]
  split
  case isTrue hfull => exact step_of_full hf hp hfull
  case isFalse hroom =>
    rcases hrun.step_cases hroom with ⟨o, hr, hstep⟩ | ⟨r, ins, hr, hrun', hheld, -, hreads, hstep⟩
    · rw [hstep, Pseudo.decodeToken, hr, Res.error_bind, Res.outcome_error]
    · rw [hstep, Pseudo.decodeToken_of_refill hr hheld, hrun'.pseudo_decodeToken hheld hreads]

end Sys2Proof.Machine

namespace Sys2Proof.Machine

/-! ### Where a step has a next state -/

/-- Where `r` ends the step it does so in a next state. -/
def Res.Proceeds {α : Type} (r : Res α) : Prop := ∀ o, r = .error o → ∃ t, o = .next t

theorem Res.Proceeds.of_eq_ok {α : Type} {r : Res α} {a : α} (h : r = .ok a) : r.Proceeds := by
  rintro o rfl
  cases h

theorem Res.Proceeds.of_eq_next {α : Type} {r : Res α} {t : State} (h : r = .error (.next t)) : r.Proceeds := by
  rintro o rfl
  exact ⟨t, Except.error.inj h⟩

theorem Res.Proceeds.bind {α β : Type} {r : Res α} {f : α → Res β} (hr : r.Proceeds)
    (hf : ∀ a, r = .ok a → (f a).Proceeds) : Res.Proceeds (r >>= f) := by
  intro o ho
  rcases Res.bind_eq_error.mp ho with he | ⟨a, ha, he⟩
  · exact hr o he
  · exact hf a ha o he

theorem Res.Proceeds.outcome {r : Res State} (h : r.Proceeds) : ∃ t, r.outcome = .next t := by
  cases r with
  | ok t => exact ⟨t, rfl⟩
  | error o => exact h o rfl

/-- A refill of filled input has its bits or is `IncompleteInput` (41_bit_reader.md R80). -/
theorem refill_proceeds {s : State} (hfill : s.inputFilled) (N : Nat) : (refill N s).Proceeds := by
  rcases Nat.lt_or_ge s.bitsLeft N with hlt | hle
  · exact .of_eq_next (refill_of_bitsLeft_lt hfill hlt)
  · exact .of_eq_ok (refill_of_le_bitsLeft hfill hle)

theorem consume_proceeds {k : Nat} {s : State} (hk : k ≤ s.bitCount) : (consume k s).Proceeds :=
  .of_eq_ok (consume_ok hk)

/-- The 14 bits of an offset part hold every offset code (31_rom_tables.md R75 (c)). -/
theorem offsetPrefix_proceeds {s : State} (hfill : s.inputFilled) (j : BitVec 6) :
    (offsetPrefix j.toNat s).Proceeds := by
  refine (refill_proceeds hfill _).bind fun r hr => consume_proceeds ?_
  obtain ⟨-, hcount : 14 ≤ r.bitCount, -⟩ := refill_ok hr
  have hcode := (offsBits_range j).2
  omega

/-- In a running decode a copy's byte is the full output, the empty dictionary, or a byte that is read and emitted
(42_dictionary.md R92 to R94). -/
theorem State.Running.copyBytes_proceeds {s : State} (hs : s.Running) (L D : Nat) : (copyBytes L D s).Proceeds := by
  induction L generalizing s with
  | zero => exact .of_eq_ok rfl
  | succ L ih =>
    by_cases hfull : s.outputPos = s.outputLen
    · exact .of_eq_next (by rw [copyBytes, if_pos hfull, raise_eq])
    rcases Nat.eq_zero_or_pos s.dictFilledSize with hempty | hne
    · exact .of_eq_next (copyBytes_of_empty L.succ_pos hfull hempty D)
    have hroom : s.outputPos < s.outputLen := Nat.lt_of_le_of_ne hs.dictInv.1 hfull
    obtain ⟨b, hb, -⟩ := hs.readBack_ok hne D
    rw [copyBytes, if_neg hfull, hb, Res.ok_bind, hs.emit_ok hroom, Res.ok_bind]
    exact ih (hs.emitted hroom b)

/-- A copy with its length part held asks for no bit beyond the 14 of its second refill (41_bit_reader.md R83, R86). -/
theorem State.Running.copyToken_proceeds {s : State} (hs : s.Running) (hfill : s.inputFilled) {i : Nat}
    (hheld : lengthPartWidth i ≤ s.bitCount) (e low : Nat) (j : BitVec 6) :
    ∃ t, copyToken i e j.toNat low s = .next t := by
  have hpath := (TokenPath.start (s := s)).consumed _ hheld
  have hcode := (offsBits_range j).2
  rw [copyToken, lengthPart_ok hheld, Res.ok_bind]
  refine Res.Proceeds.outcome ((offsetPrefix_proceeds (s := s.consumed _) hfill j).bind fun v hv => ?_)
  obtain ⟨r, hr, hcode', rfl⟩ := offsetPrefix_eq_ok.mp hv
  obtain ⟨-, hcount : 14 ≤ r.bitCount, -⟩ := refill_ok hr
  have hpath' := (hpath.of_refill (by decide) hr).consumed _ hcode'
  obtain ⟨-, -, -, -, hhead, -⟩ := State.running_iff.mp (hpath'.running hs)
  have hlow := lowWidth_le hhead.2 (lengthOf i e)
  have hlow' : lowWidth (r.consumed (Rom.offsBits j.toNat)).dictSizeCode.toNat (lengthOf i e) ≤
      (r.consumed (Rom.offsBits j.toNat)).bitCount := by
    rw [State.consumed_bitCount]
    omega
  rw [copyBody, consume_ok hlow', Res.ok_bind]
  exact ((hpath'.consumed _ hlow').running hs).copyBytes_proceeds _ _

/-- What stands at the start of the stream has a next state when it runs with 16 bits held and room for a byte. -/
theorem State.Running.exec_proceeds {r : State} {ins : Instr} (hr : r.Running) (hfill : r.inputFilled)
    (hheld : 16 ≤ r.bitCount) (hroom : r.outputPos < r.outputLen) (h : Reads r.ctx r.window ins) :
    ∃ t, exec ins r = .next t := by
  have hwrite := hr.dictWritePos_lt_dictCap
  cases h with
  | offs j ha _ _ => cases ha
  | lit8 b _ _ hs _ _ =>
    obtain rfl : Instr.lit8 b = ins := Instr.shape_injective hs.symm
    exact ⟨_, fixedLiteralEmitsItsByte r b (by omega) hroom hwrite⟩
  | litp b _ _ hs _ _ =>
    have hcode := (chBits_range b).2
    exact ⟨_, prefixCodedLiteralEmitsItsIndex ins b r hs (by omega) hroom hwrite⟩
  | endOfStream _ hs _ =>
    obtain rfl : Instr.endOfStream = ins := Instr.shape_injective hs.symm
    exact ⟨_, endGoesToDone r hheld⟩
  | copy i e j low _ h hs _ =>
    rw [h.exec_eq hr.sizeLegal hs]
    exact hr.copyToken_proceeds hfill (h.lengthPartWidth_le.trans hheld) e low j

/-! ### The input still to be fetched stays provided -/

theorem TokenPath.inputFilled {s u : State} {n : Nat} (h : TokenPath s n u) (hs : s.inputFilled) : u.inputFilled := by
  induction h with
  | start => exact hs
  | consumed k _ _ ih => exact ih
  | fetched b _ _ _ ih => exact fun a ha hpos => ih a ha (Nat.le_of_succ_le hpos)
  | emitted b _ _ _ ih => exact ih

theorem Faulted.inputFilled {s t : State} (h : Faulted s t) (hs : s.inputFilled) : t.inputFilled := by
  obtain ⟨n, u, e, hu, -, rfl⟩ := h
  exact hu.inputFilled hs

theorem TokenEnd.inputFilled {s t : State} {w : Nat} (h : TokenEnd s w t) (hs : s.inputFilled) : t.inputFilled := by
  cases h with
  | completed ht => exact ht.inputFilled hs
  | finished hu => exact hu.inputFilled hs
  | faulted hf => exact hf.inputFilled hs

/-- Settles O14: a full output ends the run; otherwise the refill proceeds on filled input, and so does the instruction
that stands at the start of the stream. -/
theorem runningDecodeNeverSticks : Obligations.RunningDecodeNeverSticks := by
  intro s hs hfill hf
  have hrun : s.Running := ⟨hs, hf⟩
  obtain ⟨-, -, hp, -⟩ := hs
  by_cases hroom : s.outputPos = s.outputLen
  · exact ⟨_, step_of_full hf hp hroom, hfill⟩
  have hnext : ∃ t, step s = .next t := by
    rcases hrun.step_cases hroom with ⟨o, hr, hstep⟩ | ⟨r, ins, hr, hrun', hheld, hroom', hreads, hstep⟩ <;> rw [hstep]
    · exact refill_proceeds hfill 16 o hr
    · exact hrun'.exec_proceeds ((tokenPath_of_refill hr).inputFilled hfill) hheld hroom' hreads
  obtain ⟨t, ht⟩ := hnext
  refine ⟨t, ht, ?_⟩
  rcases decodeToken_next ((step_of_room hf hp hroom).symm.trans ht) with hfault | ⟨r, w, hr, hend⟩
  · exact hfault.inputFilled hfill
  · exact hend.inputFilled (hr.inputFilled hfill)

end Sys2Proof.Machine

namespace Sys2Proof.Machine

/-! ### The configuration across a step of a running decode -/

theorem SameConfig.trans {s u t : State} (h : SameConfig s u) (h' : SameConfig u t) : SameConfig s t := by
  obtain ⟨hmode, hsize, hbase, hin, hout, hinput, hmoves, hfree⟩ := h
  obtain ⟨hmode', hsize', hbase', hin', hout', hinput', hmoves', hfree'⟩ := h'
  exact ⟨hmode'.trans hmode, hsize'.trans hsize, hbase'.trans hbase, hin'.trans hin, hout'.trans hout,
    hinput'.trans hinput, hmoves'.trans hmoves, hfree'.trans hfree⟩

theorem Faulted.sameConfig {s t : State} (h : Faulted s t) : SameConfig s t := by
  obtain ⟨n, u, e, hu, -, rfl⟩ := h
  exact hu.sameConfig

theorem TokenEnd.sameConfig {s t : State} {w : Nat} (h : TokenEnd s w t) : SameConfig s t := by
  cases h with
  | completed ht => exact ht.sameConfig
  | finished hu => exact hu.sameConfig
  | faulted hf => exact hf.sameConfig

theorem decodeToken_sameConfig {s t : State} (h : decodeToken s = .next t) : SameConfig s t := by
  rcases decodeToken_next h with hf | ⟨r, w, hr, he⟩
  · exact hf.sameConfig
  · exact hr.sameConfig.trans he.sameConfig

theorem finishCopy_sameConfig {length j : Nat} {s t : State} (h : finishCopy length j s = .next t) : SameConfig s t := by
  have hpeek : (peek (lowWidth s.dictSizeCode.toNat length) s).Meets (fun _ => True) (Faulted s) := by
    unfold peek
    split <;> trivial
  have hm : Res.Meets (do
      let low ← peek (lowWidth s.dictSizeCode.toNat length) s
      let u ← copyBody length j low s
      .ok { u with pendingLength := none }) (SameConfig s) (Faulted s) :=
    hpeek.bind fun low _ => (copyBody_meets .start length j low).bind fun _ hu => hu.sameConfig
  exact (hm.outcome h).elim id Faulted.sameConfig

theorem resumeCopy_sameConfig {length : Nat} {s t : State} (h : resumeCopy length s = .next t) : SameConfig s t := by
  unfold resumeCopy at h
  split at h
  · exact (rejectToken_next h).sameConfig
  · split at h
    · rename_i u hu
      have hexec := noTokenWritesTheConfiguration _ s u hu
      split at h
      · exact hexec.trans (finishCopy_sameConfig h)
      · cases h
        exact hexec
    · rename_i hne
      exact absurd h (hne t)

theorem step_sameConfig {s t : State} (hf : s.fsm = .readToken) (h : step s = .next t) : SameConfig s t := by
  cases hp : s.pendingLength with
  | some length => exact resumeCopy_sameConfig ((step_of_pending hf hp).symm.trans h)
  | none =>
    by_cases hroom : s.outputPos = s.outputLen
    · rw [step_of_full hf hp hroom] at h
      cases h
      exact (TokenEnd.finished (.start (s := s))).sameConfig
    · exact decodeToken_sameConfig ((step_of_room hf hp hroom).symm.trans h)

theorem step_of_not_readToken {s : State} (hf : s.fsm ≠ .readToken) : step s = hostStep s := if_neg hf

/-- Settles O7: outside a decode the step is `hostStep`, which the first move of the list decides; inside one, no place of
a token writes the configuration. -/
theorem hostMovesLandOnlyBetweenDecodes : Obligations.HostMovesLandOnlyBetweenDecodes := by
  refine ⟨fun s hf hm => ?_, fun s base len outLen rest hf hm => ?_, fun s base bytes rest hf hm => ?_,
    fun s base bytes rest hf hm => ?_, fun s t hf h => step_sameConfig hf h⟩
  · simp only [step_of_not_readToken hf, hostStep, hm]
  · simp only [step_of_not_readToken hf, hostStep, hm]
  · refine ⟨{ s with input := s.input.writeBytes base bytes, hostMoves := rest }, ?_, rfl,
      fun k hk => Memory.read_writeBytes_inside _ _ _ _ hk, fun a ha => Memory.read_writeBytes_outside _ _ _ _ ha⟩
    simp only [step_of_not_readToken hf, hostStep, hm]
  · refine ⟨{ s with out := s.out.writeBytes base bytes, hostMoves := rest }, ?_, rfl,
      fun k hk => Memory.read_writeBytes_inside _ _ _ _ hk, fun a ha => Memory.read_writeBytes_outside _ _ _ _ ha⟩
    simp only [step_of_not_readToken hf, hostStep, hm]

/-! ### The ways out of `ReadToken` -/

theorem Res.Meets.of_ok {α : Type} {r : Res α} {P P' : α → Prop} {Q : State → Prop} (h : r.Meets P Q)
    (h' : ∀ a, r = .ok a → P' a) : r.Meets P' Q := by
  match r, h with
  | .ok a, _ => exact h' a rfl
  | .error (.next _), ht => exact ht
  | .error (.fault _), _ => trivial
  | .error (.refused _), _ => trivial

/-- A next state of a copy is a fault, or the copy's bytes are emitted and the decode goes on. -/
theorem copyToken_emits {i e j low : Nat} {s t : State} (h : copyToken i e j low s = .next t) :
    (t.fsm = s.fsm ∧ t.err = s.err ∧ t.outputPos = s.outputPos + lengthOf i e) ∨ Faulted s t := by
  have hm := (lengthPart_meets (.start (s := s)) i).bind fun u hu => (offsetPrefix_meets hu j).bind fun v hv =>
    copyBody_meets hv (lengthOf i e) j low
  refine (hm.of_ok (P' := fun t => t.fsm = s.fsm ∧ t.err = s.err ∧ t.outputPos = s.outputPos + lengthOf i e)
    fun t ht => ?_).outcome h
  obtain ⟨u, hu, ht⟩ := Res.bind_eq_ok.mp ht
  obtain ⟨-, rfl⟩ := lengthPart_eq_ok.mp hu
  obtain ⟨v, hv, ht⟩ := Res.bind_eq_ok.mp ht
  obtain ⟨r, hr, -, rfl⟩ := offsetPrefix_eq_ok.mp hv
  obtain ⟨w, hw, ht⟩ := Res.bind_eq_ok.mp ht
  obtain ⟨-, rfl⟩ := consume_eq_ok.mp hw
  obtain ⟨hframe, hpos⟩ := copyBytes_frame ht
  obtain ⟨hsame, -⟩ := refill_ok hr
  rw [hsame] at hframe hpos
  rw [hframe]
  exact ⟨rfl, rfl, hpos⟩

/-- What a step of a running decode can come to (44_fsm.md R120): a token that emitted, the end of the run, or a fault. -/
def State.Transition (s t : State) : Prop :=
  (t.fsm = .readToken ∧ t.err = .none ∧ s.outputPos < t.outputPos) ∨
  (t.fsm = .done ∧ t.err = .none ∧ SameBytes s t) ∨
  (t.fsm = .failed ∧ t.err ≠ .none)

theorem Faulted.transition {s t : State} (h : Faulted s t) (r : State) : r.Transition t := by
  obtain ⟨n, u, e, -, he, rfl⟩ := h
  exact .inr (.inr ⟨rfl, he⟩)

theorem State.Running.finished_transition {s u : State} (hu : u.Running) (h : SameBytes s u) :
    s.Transition u.finished := by
  obtain ⟨-, he, -⟩ := State.running_iff.mp hu
  exact .inr (.inl ⟨rfl, he, h⟩)

/-- A token that stands at the start of the stream emits, ends the run or faults. -/
theorem State.Running.exec_transition {r t : State} {ins : Instr} (hr : r.Running) (h : Reads r.ctx r.window ins)
    (ht : exec ins r = .next t) : r.Transition t := by
  obtain ⟨hf, he, -⟩ := State.running_iff.mp hr
  cases h with
  | offs j ha _ _ => cases ha
  | lit8 b _ _ hs _ _ =>
    obtain ⟨k, rfl⟩ := exec_literal_next (.inl hs) ht
    exact .inl ⟨hf, he, Nat.lt_succ_self _⟩
  | litp b _ _ hs _ _ =>
    obtain ⟨k, rfl⟩ := exec_literal_next (.inr hs) ht
    exact .inl ⟨hf, he, Nat.lt_succ_self _⟩
  | endOfStream _ hs _ =>
    obtain rfl : Instr.endOfStream = ins := Instr.shape_injective hs.symm
    obtain ⟨k, rfl⟩ := exec_endOfStream_next ht
    exact .inr (.inl ⟨rfl, he, ((SameButReader.refl r).consumed k).sameBytes⟩)
  | copy i e j low _ h hs _ =>
    rw [h.exec_eq hr.sizeLegal hs] at ht
    rcases copyToken_emits ht with ⟨hfsm, herr, hpos⟩ | hfault
    · have hlen : 0 < lengthOf i e := Nat.add_pos_left (lenBase_pos i h.index_lt) e
      exact .inl ⟨hfsm.trans hf, herr.trans he, by omega⟩
    · exact hfault.transition r

/-- Settles O16: a full output ends the run; a refill faults or changes the reader only; and the token after it emits, ends
the run or faults. -/
theorem stepTakesOneOfTheTransitions : Obligations.StepTakesOneOfTheTransitions := by
  intro s t hs hf h
  have hrun : s.Running := ⟨hs, hf⟩
  obtain ⟨-, -, hp, -⟩ := hs
  by_cases hroom : s.outputPos = s.outputLen
  · rw [step_of_full hf hp hroom] at h
    cases h
    exact hrun.finished_transition (SameButReader.refl s).sameBytes
  rcases hrun.step_cases hroom with ⟨o, hr, hstep⟩ | ⟨r, ins, hr, hrun', -, -, hreads, hstep⟩ <;> rw [hstep] at h
  · have hm := refill_meets (.start (s := s)) (Nat.le_refl Config.tokenLookahead)
    rw [hr, h] at hm
    exact Faulted.transition hm s
  · have htrans := hrun'.exec_transition hreads h
    rw [(refill_ok hr).1] at htrans
    exact htrans

/-! ### The run -/

theorem core_run_succ {s t : State} (h : step s = .next t) (k : Nat) : core.run (k + 1) s = core.run k t := by
  have h' : core.step s = .next t := h
  simp only [Host.Core.run, h']

/-- Settles O15, by induction on the room left: a step ends the run or emits a byte (`stepTakesOneOfTheTransitions`), and
a full output ends it. -/
theorem everyRunEnds : Obligations.EveryRunEnds := by
  intro s hs hfill hf
  induction hroom : s.outputLen - s.outputPos using Nat.strong_induction_on generalizing s with
  | _ n ih =>
    obtain ⟨t, ht, hfill'⟩ := runningDecodeNeverSticks s hs hfill hf
    have hinv := stepKeepsTheInvariant s t hs ht
    rcases stepTakesOneOfTheTransitions s t hs hf ht with ⟨hf', -, hpos⟩ | ⟨hdone, -⟩ | ⟨hfailed, -⟩
    · obtain ⟨-, -, -, -, hlen, -⟩ := step_sameConfig hf ht
      obtain ⟨hle, -⟩ := State.Running.dictInv ⟨hinv, hf'⟩
      obtain ⟨k, hk, u, hu, hend⟩ := ih _ (by omega) t hinv hfill' hf' rfl
      exact ⟨k + 1, by omega, u, (core_run_succ ht k).trans hu, hend⟩
    · exact ⟨1, by omega, t, core_run_succ ht 0, .inl hdone⟩
    · exact ⟨1, by omega, t, core_run_succ ht 0, .inr hfailed⟩

end Sys2Proof.Machine

namespace Sys2Proof.Machine

/-! ### Machines that differ in stale `DICT` bytes

Every operation answers two such machines alike. What keeps their window equal is that a byte written while the window
fills goes to the first stale address (42_dictionary.md R90). -/

/-- The operations' answers are of one kind, for one reason: values related by `A`, or outcomes that differ in stale bytes
only. -/
def Res.Rel {α : Type} (A : α → α → Prop) (x y : Res α) : Prop :=
  match x, y with
  | .ok a, .ok b => A a b
  | .error o, .error p => OutcomeRel SameButStale o p
  | _, _ => False

theorem Res.Rel.bind {α β : Type} {A : α → α → Prop} {B : β → β → Prop} {x y : Res α} {f g : α → Res β}
    (h : x.Rel A y) (hf : ∀ a b, A a b → (f a).Rel B (g b)) : Res.Rel B (x >>= f) (y >>= g) := by
  match x, y, h with
  | .ok a, .ok b, hab => exact hf a b hab
  | .error _, .error _, hop => exact hop

theorem Res.Rel.outcome {A : State → State → Prop} {x y : Res State} (h : x.Rel A y)
    (hA : ∀ s t, A s t → SameButStale s t) : OutcomeRel SameButStale x.outcome y.outcome := by
  match x, y, h with
  | .ok a, .ok b, hab => exact hA a b hab
  | .error _, .error _, hop => exact hop

/-- `s` with other bytes in `DICT`. -/
def State.withDict (d : Memory) (s : State) : State := { s with dict := d }

theorem SameButStale.exists_withDict {s t : State} (h : SameButStale s t) :
    ∃ d, t = s.withDict d ∧ ∀ p < s.dictFilledSize, d.read p = s.dict.read p := ⟨t.dict, h.1, h.2⟩

/-- Two places inside a token of a running decode that differ in stale `DICT` bytes only. -/
def StaleAlike (s t : State) : Prop := s.dictInv ∧ SameButStale s t

theorem StaleAlike.same {s t : State} (h : StaleAlike s t) : SameButStale s t := h.2

/-- The byte written is either inside the window already or the first beyond it. -/
theorem State.dictInv.lt_of_lt_dictFilledSize_emitted {s : State} (h : s.dictInv) (b : Byte) {p : Nat}
    (hp : p < (s.emitted b).dictFilledSize) (hne : p ≠ s.dictWritePos) : p < s.dictFilledSize := by
  obtain ⟨-, hwrite, hfill, -⟩ := h
  rw [State.emitted_dictFilledSize] at hp
  split at hp
  case isTrue hlt =>
    have hpos : s.outputPos < s.dictSize := by omega
    rw [Nat.mod_eq_of_lt hpos] at hwrite
    omega
  case isFalse => exact hp

theorem StaleAlike.emitted {s t : State} (h : StaleAlike s t) (hroom : s.outputPos < s.outputLen) (b : Byte) :
    StaleAlike (s.emitted b) (t.emitted b) := by
  obtain ⟨hinv, hsame⟩ := h
  obtain ⟨d, rfl, hread⟩ := hsame.exists_withDict
  refine ⟨State.dictInv_emitted b hinv hroom, rfl, fun p hp => ?_⟩
  have hdict : ((s.withDict d).emitted b).dict = d.write s.dictWritePos b := rfl
  rw [hdict, State.emitted_dict, Memory.read_write, Memory.read_write]
  split
  case isTrue => rfl
  case isFalse hne => exact hread p (hinv.lt_of_lt_dictFilledSize_emitted b hp hne)

/-- `IN` is read alike. -/
theorem readIn_rel {s t : State} (h : SameButStale s t) (a : Nat) : (readIn a s).Rel Eq (readIn a t) := by
  obtain ⟨d, rfl, -⟩ := h.exists_withDict
  rw [show readIn a (s.withDict d) = readIn a s from rfl, readIn]
  split
  · rfl
  · cases s.input.read a <;> rfl

section
variable {s t : State} (h : StaleAlike s t)
include h

theorem raise_rel {α : Type} (A : α → α → Prop) (e : ErrKind) : Res.Rel A (raise e s) (raise e t) := by
  obtain ⟨d, rfl, hread⟩ := h.same.exists_withDict
  exact ⟨rfl, hread⟩

theorem consume_rel (k : Nat) : (consume k s).Rel StaleAlike (consume k t) := by
  obtain ⟨hinv, hsame⟩ := h
  obtain ⟨d, rfl, hread⟩ := hsame.exists_withDict
  by_cases hk : k ≤ s.bitCount
  · rw [consume_ok hk, consume_ok (s := s.withDict d) hk]
    exact ⟨hinv, rfl, hread⟩
  · rw [consume, consume, if_neg hk, if_neg (show ¬ k ≤ (s.withDict d).bitCount from hk)]
    rfl

theorem fetchByte_rel : (fetchByte s).Rel StaleAlike (fetchByte t) := by
  have hraise := raise_rel h StaleAlike .incompleteInput
  have hread := readIn_rel h.same s.inputPos
  obtain ⟨hinv, hsame⟩ := h
  obtain ⟨d, rfl, hstale⟩ := hsame.exists_withDict
  rw [fetchByte, fetchByte]
  by_cases hend : s.inputLen ≤ s.inputPos
  · rwa [if_pos hend, if_pos (show (s.withDict d).inputLen ≤ (s.withDict d).inputPos from hend)]
  · rw [if_neg hend, if_neg (show ¬ (s.withDict d).inputLen ≤ (s.withDict d).inputPos from hend)]
    refine hread.bind fun b c hb => ?_
    subst hb
    exact ⟨hinv, rfl, hstale⟩

theorem refillLoop_rel (fuel N : Nat) : (refillLoop fuel N s).Rel StaleAlike (refillLoop fuel N t) := by
  induction fuel generalizing s t with
  | zero => exact h
  | succ fuel ih =>
    have hcount : t.bitCount = s.bitCount := by rw [h.same.1]
    rw [refillLoop, refillLoop, hcount]
    split
    · exact (fetchByte_rel h).bind fun _ _ hu => ih hu
    · exact h

theorem refill_rel (N : Nat) : (refill N s).Rel StaleAlike (refill N t) := refillLoop_rel h N N

theorem emit_rel (b : Byte) : (emit b s).Rel StaleAlike (emit b t) := by
  have hlen : t.outputLen = s.outputLen := by rw [h.same.1]
  have hpos : t.outputPos = s.outputPos := by rw [h.same.1]
  have hwrite : t.dictWritePos = s.dictWritePos := by rw [h.same.1]
  rw [emit, emit, hlen, hpos, hwrite]
  split
  · rfl
  · split
    · rfl
    · exact h.emitted (by omega) b

/-- The address read is one of the window's (42_dictionary.md R92). -/
theorem readBack_rel (D : Nat) : (readBack D s).Rel Eq (readBack D t) := by
  have hraise := raise_rel h (α := Byte) Eq .badData
  obtain ⟨d, rfl, hread⟩ := h.same.exists_withDict
  have hfill : (s.withDict d).dictFilledSize = s.dictFilledSize := rfl
  have haddr : (s.withDict d).readBackPos D = s.readBackPos D := rfl
  have hdict : (s.withDict d).dict = d := rfl
  rw [readBack, readBack, hfill, haddr, hdict]
  split
  · exact hraise
  · rw [hread _ (readBackPos_lt (by omega))]
    split
    · rfl
    · cases s.dict.read (s.readBackPos D) <;> rfl

theorem copyBytes_rel (L D : Nat) : (copyBytes L D s).Rel StaleAlike (copyBytes L D t) := by
  induction L generalizing s t with
  | zero => exact h
  | succ L ih =>
    have hlen : t.outputLen = s.outputLen := by rw [h.same.1]
    have hpos : t.outputPos = s.outputPos := by rw [h.same.1]
    rw [copyBytes, copyBytes, hlen, hpos]
    split
    · exact raise_rel h _ _
    · refine (readBack_rel h D).bind fun b c hb => ?_
      subst hb
      exact (emit_rel h b).bind fun _ _ hu => ih hu

theorem lengthPart_rel (i : Nat) : (lengthPart i s).Rel StaleAlike (lengthPart i t) :=
  (consume_rel h 1).bind fun _ _ hu => (consume_rel hu _).bind fun _ _ hv => consume_rel hv _

theorem literal_rel (k : Nat) (b : Byte) :
    Res.Rel StaleAlike (do let u ← consume 1 s; let u ← consume k u; emit b u)
      (do let u ← consume 1 t; let u ← consume k u; emit b u) :=
  (consume_rel h 1).bind fun _ _ hu => (consume_rel hu k).bind fun _ _ hv => emit_rel hv b

theorem offsetPrefix_rel (j : Nat) : (offsetPrefix j s).Rel StaleAlike (offsetPrefix j t) :=
  (refill_rel h _).bind fun _ _ hu => consume_rel hu _

theorem copyBody_rel (length j low : Nat) : (copyBody length j low s).Rel StaleAlike (copyBody length j low t) := by
  have hsize : t.dictSizeCode = s.dictSizeCode := by rw [h.same.1]
  rw [copyBody, copyBody, hsize]
  exact (consume_rel h _).bind fun _ _ hu => copyBytes_rel hu _ _

theorem copyToken_rel (i e j low : Nat) : OutcomeRel SameButStale (copyToken i e j low s) (copyToken i e j low t) :=
  ((lengthPart_rel h i).bind fun _ _ hu => (offsetPrefix_rel hu j).bind fun _ _ hv =>
    copyBody_rel hv (lengthOf i e) j low).outcome fun _ _ => StaleAlike.same

theorem exec_rel (ins : Instr) : OutcomeRel SameButStale (exec ins s) (exec ins t) := by
  rw [exec_eq_execShape, exec_eq_execShape]
  cases ins.shape with
  | lit8 b => exact (literal_rel h 8 b).outcome fun _ _ => StaleAlike.same
  | litp b => exact (literal_rel h (Rom.chBits b.toNat) b).outcome fun _ _ => StaleAlike.same
  | copy2 j low => exact copyToken_rel h 0 0 j.toNat low.toNat
  | copy i e j low => exact copyToken_rel h i e j.toNat low.toNat
  | endOfStream =>
    have hend : Res.Rel StaleAlike (do let u ← lengthPart 15 s; .ok u.finished)
        (do let u ← lengthPart 15 t; .ok u.finished) :=
      (lengthPart_rel h 15).bind fun u v huv => by
        obtain ⟨hinv, hsame⟩ := huv
        obtain ⟨d, rfl, hread⟩ := hsame.exists_withDict
        exact ⟨hinv, rfl, hread⟩
    exact hend.outcome fun _ _ => StaleAlike.same
  | offs j => exact (offsetPrefix_rel h j.toNat).outcome fun _ _ => StaleAlike.same

theorem rejectToken_rel (e : DecodeError) : OutcomeRel SameButStale (rejectToken e s) (rejectToken e t) := by
  cases e with
  | noLiteralCode | noLengthCode =>
    exact ((consume_rel h 1).bind fun _ _ hu => raise_rel hu StaleAlike _).outcome fun _ _ => StaleAlike.same
  | noOffsetCode k =>
    exact ((consume_rel h k).bind fun _ _ hu => (refill_rel hu _).bind fun _ _ hv =>
      raise_rel hv StaleAlike _).outcome fun _ _ => StaleAlike.same
  | noTableRow => rfl

/-- What is decoded depends on the reader, `IN` and the header only. -/
theorem StaleAlike.decode_eq : decode t.ctx t.window = decode s.ctx s.window := by
  obtain ⟨d, rfl, -⟩ := h.same.exists_withDict
  rfl

theorem decodeToken_rel : OutcomeRel SameButStale (decodeToken s) (decodeToken t) := by
  have hrefill := refill_rel h Config.tokenLookahead
  rw [decodeToken, decodeToken]
  match refill Config.tokenLookahead s, refill Config.tokenLookahead t, hrefill with
  | .error _, .error _, hop => exact hop
  | .ok u, .ok v, huv =>
    simp only [huv.decode_eq]
    cases decode u.ctx u.window with
    | ok ins => exact exec_rel huv ins
    | error e => exact rejectToken_rel huv e

end

/-- A launch empties the window, so every `DICT` byte is stale behind it (10_state.md R17, 44_fsm.md R124). -/
theorem launchChecks_rel {s t : State} (h : SameButStale s t) :
    OutcomeRel SameButStale (launchChecks s) (launchChecks t) := by
  have hread := readIn_rel h
  obtain ⟨d, rfl, -⟩ := h.exists_withDict
  have hfailed (e : ErrKind) : SameButStale (s.launchFailed e) ((s.withDict d).launchFailed e) := ⟨rfl, nofun⟩
  have hbase : (s.withDict d).inputBase = s.inputBase := rfl
  have hlen : (s.withDict d).inputLen = s.inputLen := rfl
  rw [launchChecks, launchChecks, hbase, hlen]
  split
  · exact hfailed _
  · refine Res.Rel.outcome (A := SameButStale) ((hread _).bind fun f f' hf => (hread _).bind fun c c' hc => ?_)
      fun _ _ => id
    subst hf hc
    split
    · exact ⟨rfl, nofun⟩
    · exact hfailed _

theorem hostStep_rel {s t : State} (h : SameButStale s t) : OutcomeRel SameButStale (hostStep s) (hostStep t) := by
  have hmoves : t.hostMoves = s.hostMoves := by rw [h.1]
  obtain ⟨d, rfl, hread⟩ := h.exists_withDict
  rw [hostStep, hostStep, hmoves]
  match s.hostMoves with
  | [] => rfl
  | .fillIn base bytes :: rest => exact ⟨rfl, hread⟩
  | .fillOut base bytes :: rest => exact ⟨rfl, hread⟩
  | .launch base len outLen :: rest =>
    have hfsm : (s.withDict d).fsm = s.fsm := rfl
    simp only [launch, hfsm]
    split
    · rfl
    · exact launchChecks_rel ⟨rfl, hread⟩

/-- Settles O18: outside a decode no host move reads `DICT`; inside one, the operations of a token read it in the window
only and fill the window before they go beyond it. -/
theorem staleDictionaryNeverMatters : Obligations.StaleDictionaryNeverMatters := by
  intro s t hs h
  have hfsm : t.fsm = s.fsm := by rw [h.1]
  by_cases hf : s.fsm = .readToken
  · have hf' : t.fsm = .readToken := hfsm.trans hf
    have halike : StaleAlike s t := ⟨State.Running.dictInv ⟨hs, hf⟩, h⟩
    obtain ⟨-, -, hp, -⟩ := hs
    have hp' : t.pendingLength = none := by rw [h.1, hp]
    by_cases hfull : s.outputPos = s.outputLen
    · have hfull' : t.outputPos = t.outputLen := by rw [h.1, hfull]
      rw [step_of_full hf hp hfull, step_of_full hf' hp' hfull']
      obtain ⟨d, rfl, hread⟩ := h.exists_withDict
      exact ⟨rfl, hread⟩
    · have hroom' : t.outputPos ≠ t.outputLen := by rwa [h.1]
      rw [step_of_room hf hp hfull, step_of_room hf' hp' hroom']
      exact decodeToken_rel halike
  · rw [step_of_not_readToken hf, step_of_not_readToken (hfsm ▸ hf)]
    exact hostStep_rel h

end Sys2Proof.Machine

namespace Sys2Proof.Machine

/-! ### Launch and result -/

section
variable {s : State} {base len outLen : Nat}

theorem launch_eq_launchChecks (hf : s.fsm ≠ .readToken) :
    launch base len outLen s = launchChecks (s.withParams base len outLen) := if_neg hf

theorem launch_of_short (hf : s.fsm ≠ .readToken) (hshort : (if base ≤ len then len - base else 0) < 4) :
    launch base len outLen s = .next ((s.withParams base len outLen).launchFailed .incompleteInput) :=
  (launch_eq_launchChecks hf).trans (if_pos hshort)

/-- With 4 bytes or more, of which the host has placed the first two, the launch is decided by the header (44_fsm.md R123,
R124). -/
theorem launch_of_header {f c : Byte} (hf : s.fsm ≠ .readToken) (hlen : base + 4 ≤ len)
    (hmode : s.input.read base = some f) (hsize : s.input.read (base + 1) = some c) :
    launch base len outLen s = .next
      (if headerLegal f c then (s.withParams base len outLen).launched f c
       else (s.withParams base len outLen).launchFailed .badData) := by
  have hlong : ¬ avail base len < Config.minInput := by
    rw [avail, if_pos (by omega)]
    unfold Config.minInput
    omega
  have hread0 : readIn base (s.withParams base len outLen) = .ok f :=
    readIn_ok (s := s.withParams base len outLen) (show base < len by omega) hmode
  have hread1 : readIn (base + 1) (s.withParams base len outLen) = .ok c :=
    readIn_ok (s := s.withParams base len outLen) (show base + 1 < len by omega) hsize
  rw [launch_eq_launchChecks hf, launchChecks, State.withParams_inputBase, State.withParams_inputLen, if_neg hlong,
    hread0, Res.ok_bind, hread1, Res.ok_bind]
  split <;> rfl

theorem headerLegal_iff {f c : Byte} : headerLegal f c = true ↔ f.toNat ≤ 1 ∧ 4 ≤ c.toNat ∧ c.toNat ≤ 6 := by
  simp only [headerLegal, Bool.and_eq_true, decide_eq_true_eq, and_assoc]

end

/-- Settles O2: the number of bytes is looked at before any byte is, and `IN` goes through unread. -/
theorem shortInputFailsTheLaunch : Obligations.ShortInputFailsTheLaunch := fun _ _ _ _ hf hshort =>
  ⟨_, launch_of_short hf hshort, rfl, rfl, rfl, rfl, rfl, rfl, rfl, rfl, rfl, rfl, rfl,
    fun _ => launch_of_short hf hshort⟩

/-- Settles O3: `launch_of_header` with a header that is not legal. -/
theorem illegalHeaderFailsTheLaunch : Obligations.IllegalHeaderFailsTheLaunch := by
  intro s base len outLen f c hf hlen hmode hsize hbad
  have hillegal : ¬ headerLegal f c = true := by
    rw [headerLegal_iff]
    omega
  have hlaunch := launch_of_header (outLen := outLen) hf hlen hmode hsize
  rw [if_neg hillegal] at hlaunch
  exact ⟨_, hlaunch, rfl, rfl, rfl, rfl, rfl, rfl, rfl, rfl, rfl, rfl, rfl⟩

/-- Settles O4: `launch_of_header` with a legal header, whose values fit their registers; the cursor stands 2 bytes behind
`inputBase` with nothing held. -/
theorem legalHeaderStartsTheDecode : Obligations.LegalHeaderStartsTheDecode := by
  intro s base len outLen f c hf hlen hmode hsize hf1 hc4 hc6
  have hlaunch := launch_of_header (outLen := outLen) hf hlen hmode hsize
  rw [if_pos (headerLegal_iff.mpr ⟨hf1, hc4, hc6⟩)] at hlaunch
  have hcode : (c.setWidth 3).toNat = c.toNat := by rw [BitVec.toNat_setWidth, Nat.mod_eq_of_lt (by omega)]
  have hflag : (f.setWidth 1).toNat = f.toNat := by rw [BitVec.toNat_setWidth, Nat.mod_eq_of_lt (by omega)]
  refine ⟨_, hlaunch, hflag, hcode, ?_, rfl, rfl, rfl, rfl, rfl, rfl, rfl, rfl, rfl, rfl, rfl, rfl, rfl, rfl, ?_⟩
  · rw [State.dictSize_eq, State.launched_dictSizeCode, hcode]
  · simp only [State.bitCursor, State.launched_inputPos, State.launched_inputBase, State.launched_bitCount]
    omega

/-- Settles O5: `launch` looks at `fsm` first. -/
theorem launchWhileRunningIsRefused : Obligations.LaunchWhileRunningIsRefused := fun _ _ _ _ hf => if_pos hf

/-- Settles O6: the checks read the parameters and `IN` only, and both states a launch can end in overwrite every register
of the previous decode. -/
theorem launchForgetsThePreviousDecode : Obligations.LaunchForgetsThePreviousDecode := by
  intro s t base len outLen hs ht hinput hdict hout hmoves hfree
  rw [launch_eq_launchChecks hs, launch_eq_launchChecks ht]
  cases s
  cases t
  subst hinput hdict hout hmoves hfree
  rfl

theorem readOut_length (n : Nat) (s : State) : (readOut n s).length = n := by simp [readOut]

theorem readOut_getElem? {n k : Nat} (hk : k < n) (s : State) : (readOut n s)[k]? = some (s.out.read k) := by
  simp [readOut, hk]

/-- Settles O8: `readResult` asks whether the state is terminal, and reads the bytes emitted. -/
theorem resultIsReadableExactlyWhenOver : Obligations.ResultIsReadableExactlyWhenOver := fun s =>
  ⟨fun hover => ⟨_, if_pos hover, readOut_length _ s, fun _ hk => readOut_getElem? hk s⟩, fun hrun => if_neg hrun⟩

/-- Settles O9: the output is looked at before the refill. -/
theorem fullOutputEndsTheRun : Obligations.FullOutputEndsTheRun := fun _ => step_of_full

end Sys2Proof.Machine

namespace Sys2Proof.Machine

/-! ### The faults

Each fault is raised in a state that lemmas above name: the refilled state where the bits run out, the copy's last byte
where the room does (60_exceptions.md R141, R143, R147). -/

/-- Settles O23: `raised` writes `err`, `fsm` and the model's own `pendingLength`. -/
theorem raiseRecordsOnlyTheKind : Obligations.RaiseRecordsOnlyTheKind := fun e s =>
  ⟨s.raised e, raise_eq e s, rfl, rfl, rfl⟩

/-- Settles O19: with room the step is its refill of 16 bits, which faults (`refillFetchesJustEnough`). -/
theorem tokenNeedsSixteenBits : Obligations.TokenNeedsSixteenBits := by
  intro s hs hfill hf hroom hleft
  obtain ⟨-, -, hpend, -, -, hread, -⟩ := State.running_iff.mp ⟨hs, hf⟩
  obtain ⟨t, ht, hfsm, herr, hpos, hcount, -, hbytes, hconfig, -⟩ :=
    (refillFetchesJustEnough s 16 (.inr rfl) hread hfill).2 hleft
  exact ⟨t, (step_of_room hf hpend hroom.ne).trans (decodeToken_of_refill_error ht), hfsm, herr, hpos, hcount, hbytes,
    hconfig⟩

/-- The length index a copy instruction runs with is that of its operands. -/
theorem exec_eq_copyToken_index {c : Ctx} {ins : Instr} {o : CopyOperands} (ho : copyOperands c ins = some o)
    (s : State) : ∃ e j low, exec ins s = copyToken o.index e j low s := by
  rw [exec_eq_execShape]
  unfold copyOperands at ho
  cases hs : ins.shape with rw [hs] at ho
  | copy2 j low =>
    obtain rfl := Option.some.inj ho
    exact ⟨0, j.toNat, low.toNat, rfl⟩
  | copy i e j low =>
    obtain rfl := Option.some.inj ho
    exact ⟨e, j.toNat, low.toNat, rfl⟩
  | lit8 | litp | endOfStream | offs => cases ho

/-- Settles O40: the length part is consumed, and the refill of 14 bits behind it faults (`refillFetchesJustEnough`),
before the dictionary or the output is looked at. -/
theorem copyNeedsFourteenBits : Obligations.CopyNeedsFourteenBits := by
  intro ins o s ho hread hfill hheld hleft
  obtain ⟨e, j, low, hexec⟩ := exec_eq_copyToken_index ho s
  have hconsumed := State.bitsLeft_consumed hheld
  obtain ⟨t, ht, hfsm, herr, hpos, hcount, -, hbytes, hconfig, -⟩ :=
    (refillFetchesJustEnough (s.consumed (lengthPartWidth o.index)) 14 (.inl rfl)
      (State.readerInv_consumed hread hheld) hfill).2 (by omega)
  refine ⟨t, ?_, hfsm, herr, hpos, hcount ▸ hconsumed, hbytes, hconfig⟩
  rw [hexec, copyToken, lengthPart_ok hheld, Res.ok_bind, offsetPrefix, ht, Res.error_bind, Res.error_bind,
    Res.outcome_error]

/-- A copy of `L + K` bytes is one of `L` bytes, followed by one of `K` bytes (42_dictionary.md R94). -/
theorem copyBytes_add (L K D : Nat) (s : State) : copyBytes (L + K) D s = copyBytes L D s >>= copyBytes K D := by
  induction L generalizing s with
  | zero => rw [Nat.zero_add, copyBytes, Res.ok_bind]
  | succ L ih =>
    rw [Nat.add_right_comm, copyBytes, copyBytes]
    split
    · rfl
    · simp only [bind_assoc, ih]

/-- With no room the first byte of a copy is the fault (42_dictionary.md R94, 60_exceptions.md R143). -/
theorem copyBytes_of_full {L : Nat} {s : State} (hL : 0 < L) (hfull : s.outputPos = s.outputLen) (D : Nat) :
    copyBytes L D s = .error (.next (s.raised .bufferTooSmall)) := by
  obtain ⟨L, rfl⟩ := Nat.exists_eq_succ_of_ne_zero hL.ne'
  rw [copyBytes, if_pos hfull, raise_eq]

/-- In a running decode a copy with less room than its length copies the bytes that fit, and faults at the next. -/
theorem State.Running.copyBytes_overlong {s : State} (hs : s.Running) (hne : 0 < s.dictFilledSize) {L : Nat}
    (hover : s.outputLen < s.outputPos + L) (D : Nat) :
    ∃ t, copyBytes L D s = .error (.next (t.raised .bufferTooSmall)) ∧ TokenPath s 0 t ∧ t.outputPos = s.outputLen ∧
      CopiedWindow t s.outputPos (s.outputLen - s.outputPos) D s.dictSize := by
  have hle : s.outputPos ≤ s.outputLen := hs.dictInv.1
  obtain ⟨K, hK⟩ : ∃ K, L = s.outputLen - s.outputPos + K := Nat.exists_eq_add_of_le (by omega)
  obtain ⟨t, ht, hwin⟩ := hs.copyBytes_ok hne (Nat.add_sub_cancel' hle).le D
  have hpath : TokenPath s 0 t := by
    have hm := copyBytes_meets (.start (s := s)) (s.outputLen - s.outputPos) D
    rwa [ht] at hm
  obtain ⟨-, hmoved⟩ := copyBytes_frame ht
  obtain ⟨-, -, -, -, hlen, -⟩ := hpath.sameConfig
  have hpos : t.outputPos = s.outputLen := by omega
  refine ⟨t, ?_, hpath, hpos, hwin⟩
  rw [hK, copyBytes_add, ht, Res.ok_bind, copyBytes_of_full (by omega) (hpos.trans hlen.symm)]

/-- Settles O38: the copy reaches its bytes with its bits consumed and nothing else changed, and `copyBytes_overlong` says
what it does there. -/
theorem overlongCopyIsBufferTooSmall : Obligations.OverlongCopyIsBufferTooSmall := by
  intro ins o s ho hw hinv hf hfill hreach hne hroom hover
  obtain ⟨u, hpath, hreader, hexec⟩ := exec_copy_eq_copyBytes ho hw hfill hreach
  obtain ⟨hpos, -, hfilled, -⟩ := hreader.sameBytes
  obtain ⟨-, -, -, -, hlen, -⟩ := hpath.sameConfig
  obtain ⟨t, ht, hpath', hpos', hwin⟩ :=
    (hpath.running ⟨hinv, hf⟩).copyBytes_overlong (hfilled ▸ hne) (L := o.length) (by omega) o.distance
  rw [hpos, hlen, hpath.dictSize_eq] at hwin
  have hcursor : t.bitCursor = u.bitCursor := by simpa using hpath'.bitCursor_eq
  exact ⟨t.raised .bufferTooSmall, by rw [hexec, ht, Res.outcome_error], rfl, rfl, hpos'.trans hlen, hwin,
    hpath.sameConfig.trans hpath'.sameConfig, hcursor.trans hpath.bitCursor_eq⟩

end Sys2Proof.Machine

namespace Sys2Proof.Machine

/-! ### Power-on -/

@[simp] theorem Memory.read_nil (a : Nat) : Memory.read [] a = none := rfl

/-- Settles O1: the status and its codes are those of `State.reset`, whose `DICT` is empty; no decode runs there and the
host has no move, so `hostMovesLandOnlyBetweenDecodes` refuses the step. -/
theorem powerOnIsIdleWithoutError : Obligations.PowerOnIsIdleWithoutError := by
  obtain ⟨step_without_move, -⟩ := hostMovesLandOnlyBetweenDecodes
  have hidle : State.reset.fsm ≠ .readToken := by decide
  exact ⟨rfl, rfl, rfl, rfl, Memory.read_nil, step_without_move State.reset hidle rfl⟩

end Sys2Proof.Machine
